-- ==== Sys2Proof/Word.lean ====
section
/-! DEFINITION. The plain types the whole model is written over: bytes, lines, sources, tags, dtags, the numbers of the
slots, buffers and entries, and the contents of a line and of a masked write. -/

namespace Sys2Proof

/-- One byte of a line. -/
abbrev Byte := BitVec 8

/-- A line address: the number of a 64-byte line, 0 to 2^40 - 1 (00_scope.md, Terms). -/
abbrev Line := BitVec 40

/-- A requesting agent, 0 to 15 (00_scope.md, Terms). -/
abbrev Source := Fin 16

/-- A tag, 0 to 255, numbered per source (00_scope.md, Terms). -/
abbrev Tag := BitVec 8

/-- A dtag as a message carries it, 0 to 255; the part itself assigns 0 to 71 (R104, R167). -/
abbrev Dtag := BitVec 8

/-- The number of a TT slot (section 1.1). -/
abbrev SlotId := Fin 48

/-- The number of an MB buffer (section 2.1). -/
abbrev BufferId := Fin 16

/-- The number of an ES entry (section 4.1). -/
abbrev EntryId := Fin 8

/-- The 64 bytes of a line, indexed by byte position. -/
abbrev LineData := Vector Byte 64

/-- A byte mask together with its data: at each of the 64 byte positions either the byte supplied there or nothing.
The mask is the set of positions that hold a byte, so a mask and its data cannot disagree
(00_scope.md, Byte mask; R149: "one byte for each position in the mask"). -/
abbrev Payload := Vector (Option Byte) 64

/-- The 32 data bits of a register read or write (R159). -/
abbrev RegData := BitVec 32

/-- A timer's time still to run, in units of 10 ns. Every duration of the manual is a whole number of these. -/
abbrev Ticks := Nat

/-- The kind of a request, as the TT slot record and the Retry and Reject messages name it (section 1.1, R133). -/
inductive RequestKind where
  | read | write | maskedWrite | flush
  deriving DecidableEq, Repr

/-- The status a FetchData carries (R104). -/
inductive FetchStatus where
  | ok | poison
  deriving DecidableEq, Repr

/-- The status a StoreDone carries (R104). -/
inductive StoreStatus where
  | ok | fail
  deriving DecidableEq, Repr

end Sys2Proof
end

