-- ==== Sys2Proof/Syntax.lean ====
section
/-! DEFINITION. The commands of the part: one constructor for each row of spec/opcode_table.json, in the table's order.
A command is one happening: a message or a link event that reaches a port, a transaction of the management port, the
running out of a timer, or one of the part's own steps (a decision, a departure, an entry into the RQ). -/

namespace Sys2Proof

/-- The commands, with the operands the spec gives each happening. -/
inductive Instr where
  /-- COLD_RESET (R170): the RESET pin or power-up. -/
  | coldReset
  /-- H_LINK_UP (R155): the H-port's physical layer reports LinkUp. -/
  | hLinkUp
  /-- H_LINK_DOWN (R156): the H-port's physical layer reports LinkDown. -/
  | hLinkDown
  /-- M_LINK_UP (R116): the M-port's physical layer reports LinkUp. -/
  | mLinkUp
  /-- M_LINK_DOWN (R115): the M-port's physical layer reports LinkDown. -/
  | mLinkDown
  /-- READ (R151): a Read reaches the H-port. -/
  | read (source : Source) (tag : Tag) (line : Line)
  /-- HINT (R151): a Hint reaches the H-port; it carries no tag (R149). -/
  | hint (source : Source) (line : Line)
  /-- WRITE (R151): a Write reaches the H-port with the 64 bytes of its line. -/
  | write (source : Source) (tag : Tag) (line : Line) (data : LineData)
  /-- MASKED_WRITE (R151): a MaskedWrite reaches the H-port; its payload holds a byte at each position of its mask. -/
  | maskedWrite (source : Source) (tag : Tag) (line : Line) (payload : Payload)
  /-- FLUSH (R151): a Flush reaches the H-port; it names no line (R149). -/
  | flush (source : Source) (tag : Tag)
  /-- H_GRANT (R130): a Grant of `count` response credits reaches the H-port. -/
  | hGrant (count : Nat)
  /-- FETCH_DATA (R111): a FetchData reaches the M-port. -/
  | fetchData (dtag : Dtag) (status : FetchStatus) (data : LineData)
  /-- STORE_DONE (R111): a StoreDone reaches the M-port. -/
  | storeDone (dtag : Dtag) (status : StoreStatus)
  /-- M_GRANT (R107): a Grant of `count` credits reaches the M-port. -/
  | mGrant (count : Nat)
  /-- NOTICE_POP (R166): a read of register 43. -/
  | noticePop
  /-- CLEAR_COUNTERS (R162): a write of code 1 to COMMAND. -/
  | clearCounters
  /-- CLEAR_LOST (R162): a write of code 2 to COMMAND. -/
  | clearLost
  /-- QUIESCE (R163): a write of code 3 to COMMAND. -/
  | quiesce
  /-- RESUME (R163): a write of code 4 to COMMAND. -/
  | resume
  /-- H_LINK_RESET (R148): a write of code 5 to COMMAND. -/
  | hLinkReset
  /-- M_LINK_RESET (R114): a write of code 6 to COMMAND. -/
  | mLinkReset
  /-- TOP_LINE_HI (R160): a write of 32 data bits to register 1. -/
  | topLineHi (data : RegData)
  /-- TOP_LINE_LO (R160): a write to register 0. -/
  | topLineLo (data : RegData)
  /-- MERGE_ENABLE (R36): a write to register 2. -/
  | mergeEnable (data : RegData)
  /-- HINT_ENABLE (R76): a write to register 4. -/
  | hintEnable (data : RegData)
  /-- METER_SAMPLE (R144): a write to register 8. -/
  | meterSample (data : RegData)
  /-- METER_WINDOW (R144): a write to register 9. -/
  | meterWindow (data : RegData)
  /-- METER_CONF (R141): a write to register 16 + source. -/
  | meterConf (source : Source) (data : RegData)
  /-- IRQ_ENABLE (R169): a write to register 10. -/
  | irqEnable (data : RegData)
  /-- REGISTER_WRITE (R161): a write to any other register number. -/
  | registerWrite (number : BitVec 8) (data : RegData)
  /-- READ_DEADLINE (R13): the deadline of the read in `slot` runs out. -/
  | readDeadline (slot : SlotId)
  /-- DRAIN_DEADLINE (R41): the drain deadline of `buffer` runs out. -/
  | drainDeadline (buffer : BufferId)
  /-- FETCH_DEADLINE (R70): the fetch deadline of `entry` runs out. -/
  | fetchDeadline (entry : EntryId)
  /-- AGE_TIMER (R32): the age timer of `buffer` runs out. -/
  | ageTimer (buffer : BufferId)
  /-- LIFE_TIMER (R75): the life timer of `entry` runs out. -/
  | lifeTimer (entry : EntryId)
  /-- HOLD_TIMER (R122): the hold timer of the bundle record of `source` runs out. -/
  | holdTimer (source : Source)
  /-- SAMPLE (R137): the sample timer runs out. -/
  | sample
  /-- WINDOW_CLOSE (R138): the sample with which the sample count reaches METER_WINDOW. -/
  | windowClose
  /-- DECISION (R83): one decision of admission. -/
  | decision
  /-- DEPARTURE (R103): the IQ head departs over the M-port. -/
  | departure
  /-- RRL_READ_ENTRY (R126): a read slot at the RRL head enters the RQ. -/
  | rrlReadEntry
  /-- BUNDLE_ENTRY (R127): a bundle record at the RRL head enters the RQ. -/
  | bundleEntry
  /-- RQ_DEPARTURE (R129): the RQ head departs over the H-port. -/
  | rqDeparture
  deriving DecidableEq, Repr

end Sys2Proof
end

