-- ==== Sys2Proof/WellFormed.lean ====
section
/-! DEFINITION. Which commands the spec's messages and transactions can spell. Most operands carry their range in their
type; what is left are the counts of the two Grants (R104, R149) and the register numbers that have a row of their own. -/

namespace Sys2Proof

/-- The register numbers whose write has a row of its own in the opcode table, whatever the data. -/
def hasOwnRow (number : BitVec 8) : Bool :=
  number == 0 || number == 1 || number == 2 || number == 4 || number == 8 || number == 9 || number == 10
    || (16 ≤ number.toNat && number.toNat ≤ 31)

/-- A write to COMMAND (register 11) that carries a command of R162, in bits 7 to 0. -/
def isCommandWrite (number : BitVec 8) (data : RegData) : Bool :=
  number == 11 && (1 ≤ (data.extractLsb' 0 8).toNat && (data.extractLsb' 0 8).toNat ≤ 6)

/-- A command is well formed when the spec's messages or transactions spell it: an H-port Grant counts 1 to 32 (R149),
an M-port Grant 0 to 32 (R104), and REGISTER_WRITE names a write that no other row of the table names. -/
def Instr.wellFormed : Instr → Bool
  | .hGrant count => 1 ≤ count && count ≤ 32
  | .mGrant count => count ≤ 32
  | .registerWrite number data => !hasOwnRow number && !isCommandWrite number data
  | .coldReset | .hLinkUp | .hLinkDown | .mLinkUp | .mLinkDown => true
  | .read _ _ _ | .hint _ _ | .write _ _ _ _ | .maskedWrite _ _ _ _ | .flush _ _ => true
  | .fetchData _ _ _ | .storeDone _ _ => true
  | .noticePop | .clearCounters | .clearLost | .quiesce | .resume | .hLinkReset | .mLinkReset => true
  | .topLineHi _ | .topLineLo _ | .mergeEnable _ | .hintEnable _ | .meterSample _ | .meterWindow _ => true
  | .meterConf _ _ | .irqEnable _ => true
  | .readDeadline _ | .drainDeadline _ | .fetchDeadline _ | .ageTimer _ | .lifeTimer _ | .holdTimer _ => true
  | .sample | .windowClose | .decision | .departure | .rrlReadEntry | .bundleEntry | .rqDeparture => true

end Sys2Proof
end

