-- ==== Sys2Proof/Decode.lean ====
section
/-! DEFINITION. From bits to commands. No row of spec/opcode_table.json gives bits, so no word spells a command there. What
the spec does spell in bits is a transaction of the management port (R159), which is decoded here as well. -/

namespace Sys2Proof

/-- The command that a word of the opcode table spells: no row of the table gives bits, so there is none. -/
def decodeTableWord (_nbits _w : Nat) : Option Instr := none

/-! ## The serial transaction of the management port (R159) -/

/-- Bits shifted in most significant first, as a number. -/
def msbFirst (bits : List Bool) : Nat := bits.foldl (fun n b => 2 * n + b.toNat) 0

/-- The command of a write of `data` to register `number`: the row of its own that the table gives the register, or
REGISTER_WRITE (R160, R162). -/
def writeCommandOf (number : BitVec 8) (data : RegData) : Instr :=
  match number.toNat with
  | 0 => .topLineLo data
  | 1 => .topLineHi data
  | 2 => .mergeEnable data
  | 4 => .hintEnable data
  | 8 => .meterSample data
  | 9 => .meterWindow data
  | 10 => .irqEnable data
  | 11 =>
    match (data.extractLsb' 0 8).toNat with
    | 1 => .clearCounters
    | 2 => .clearLost
    | 3 => .quiesce
    | 4 => .resume
    | 5 => .hLinkReset
    | 6 => .mLinkReset
    | _ => .registerWrite number data
  | n => if h : n - 16 < 16 ∧ 16 ≤ n then .meterConf ⟨n - 16, h.1⟩ data else .registerWrite number data

/-- The command a transaction carries out, from the bits the master has shifted in when it releases select: 8 bits of
register number, one bit of choice (1 a read, 0 a write), and for a write 32 data bits, each most significant first.
`none` is a transaction that changes nothing: a write whose select is released before its thirty-second data bit, a
transaction released before its choice, and a read of any register but NOTICE_POP (R159, R166). -/
def decodeTransaction (bits : List Bool) : Option Instr :=
  let number := BitVec.ofNat 8 (msbFirst (bits.take 8))
  match bits.drop 8 with
  | [] => none
  | true :: _ => if number == 43 then some .noticePop else none
  | false :: data =>
    if data.length < 32 then none else some (writeCommandOf number (BitVec.ofNat 32 (msbFirst (data.take 32))))

end Sys2Proof
end

