-- ==== Sys2Proof/Config.lean ====
section
/-! DEFINITION. What the part fixes once for all: its sizes, and the one order the spec leaves open. The values software
can write stand in the state (Machine/State.lean, `Registers`), not here. -/

namespace Sys2Proof

/-- Slots of the common pool (R3). -/
abbrev Config.commonSlots : Nat := 38
/-- Slots of the Read reserve (R3). -/
abbrev Config.readReserve : Nat := 4
/-- Slots of the Write reserve (R3). -/
abbrev Config.writeReserve : Nat := 4
/-- Slots of the Flush reserve (R3). -/
abbrev Config.flushReserve : Nat := 2
/-- Writes a buffer may merge before it is sealed with COUNT (R28). -/
abbrev Config.mergeLimit : Nat := 8
/-- Entries a bundle may carry (R120). -/
abbrev Config.bundleLimit : Nat := 8
/-- Places of the RQ (R128). -/
abbrev Config.rqPlaces : Nat := 32
/-- The most credits either port holds (R107, R130). -/
abbrev Config.creditLimit : Nat := 32
/-- Records the notice log holds (R165). -/
abbrev Config.noticeLimit : Nat := 16
/-- Capacity of the read lane (R150). -/
abbrev Config.readLaneSize : Nat := 8
/-- Capacity of the write lane (R150). -/
abbrev Config.writeLaneSize : Nat := 8
/-- Capacity of the flush lane (R150). -/
abbrev Config.flushLaneSize : Nat := 4
/-- 10 ns units in one microsecond. -/
abbrev Config.ticksPerMicrosecond : Nat := 100
/-- 10 ns units in the 100 ns unit of METER_SAMPLE. -/
abbrev Config.ticksPerSampleUnit : Nat := 10

/-- FREE VALUE (notes/assumptions/2.md). Whether, in a decision that both carries a pressure request which seals a
buffer and serves another lane's head, the seal is carried out before the service. R93 puts both in one happening and
gives no order, and the order shows in the IQ. The argument is the state's `choices` counter, fresh at each such
decision. -/
opaque Config.pressureFirst : Nat → Bool

end Sys2Proof
end

