-- ==== Sys2Proof/Machine/State.lean ====
section
/-! DEFINITION. The state of the part, block by block as 00_scope.md lists the blocks, and its value after a cold reset.
A record that is FREE or EMPTY holds nothing, so a field that the spec calls absent in a state cannot be read in it. -/

namespace Sys2Proof.Machine

/-- No command of this spec stops the part: each happening either has its effect, or, where its conditions do not hold,
leaves the state as it is. So there is no constructor, and no meaning can fault. -/
inductive Fault where
  deriving DecidableEq, Repr

/-- Why a command has no meaning in the model. -/
inductive Refusal where
  /-- Raised by exec's arm of a command that has no meaning yet; safe (nothing can be concluded about it). No arm
  raises it now. -/
  | notModelled (mnemonic : String)
  deriving DecidableEq, Repr

/-! ## The transaction table (Chapter 1) -/

/-- The pool a slot was taken from (section 1.1, charge). -/
inductive Charge where
  | common | reserve
  deriving DecidableEq, Repr

/-- The outcome of a read, with its data where the outcome carries data (section 1.1, result and data). -/
inductive ReadResult where
  | ok (data : LineData)
  | poison (data : LineData)
  | timeout
  | linkDown
  deriving DecidableEq, Repr

/-- The states of a read slot, each with the fields it holds (section 1.1). -/
inductive ReadCourse where
  /-- READY: its reference stands in the IQ. -/
  | ready
  /-- ISSUED: its Fetch has been sent; `none` is a Fetch sent with DEADLINE 0. -/
  | issued (deadline : Option Ticks)
  /-- WAIT_WRITE: it waits for a buffer to become FREE. -/
  | waitWrite (buffer : BufferId)
  /-- ATTACHED: it waits for the hint fetch of an entry. -/
  | attached (entry : EntryId)
  /-- RETURNED, with its orphan flag. -/
  | returned (result : ReadResult) (orphan : Bool)
  /-- ORPHANED: it waits for its late answer; its orphan flag is yes. -/
  | orphaned
  deriving DecidableEq, Repr

/-- What a slot holds, by the kind of its request. A write slot is always MERGED and a flush slot always FLUSH_WAIT. -/
inductive SlotBody where
  | read (line : Line) (detached : Bool) (course : ReadCourse)
  | write (line : Line) (masked : Bool) (buffer : BufferId)
  | flush (remaining : Nat)
  deriving DecidableEq, Repr

/-- The record of a slot that is not FREE (section 1.1). -/
structure Slot where
  source : Source
  tag : Tag
  charge : Charge
  body : SlotBody
  deriving DecidableEq, Repr

/-- The four charge counts (section 1.2). -/
structure Charges where
  common : Nat
  read : Nat
  write : Nat
  flush : Nat
  deriving DecidableEq, Repr

/-- The transaction table. -/
structure TransactionTable where
  /-- The 48 slots; `none` is FREE. -/
  slots : Vector (Option Slot) 48
  charges : Charges
  /-- The live (source, tag) pairs, no pair twice (section 1.3). -/
  tagMap : List (Source × Tag)
  /-- The holding count of each source (section 1.4). -/
  holding : Vector Nat 16
  deriving DecidableEq, Repr

/-! ## The merge buffer (Chapter 2) -/

/-- Why a buffer was sealed (section 2.1, seal_cause). -/
inductive SealCause where
  | full | count | age | pressure | read | flush | quiesce | disabled
  deriving DecidableEq, Repr

/-- The merged bytes with their mask, and the contributors set (no source twice). -/
structure Content where
  payload : Payload
  contributors : List Source
  deriving DecidableEq, Repr

/-- The states of a buffer that is not FREE, each with the fields that only some states hold (section 2.1). -/
inductive BufferPhase where
  /-- OPEN, with its age timer. -/
  | opened (content : Content) (age : Ticks)
  /-- SEALED; `queued` says whether its reference stands in the IQ. -/
  | sealed (content : Content) (cause : SealCause) (queued : Bool) (waitingFlushes : List SlotId)
  /-- DRAINING; `none` is a drain begun with DEADLINE 0. -/
  | draining (content : Content) (cause : SealCause) (waitingFlushes : List SlotId) (deadline : Option Ticks)
  /-- ORPHANED: its mask, data and contributors are gone. -/
  | orphaned (cause : SealCause)
  deriving DecidableEq, Repr

/-- The record of a buffer that is not FREE (section 2.1). -/
structure Buffer where
  line : Line
  merged : Nat
  /-- The time counter at the opening. -/
  openedAt : BitVec 32
  waitingReads : List SlotId
  phase : BufferPhase
  deriving DecidableEq, Repr

/-- The merge buffer. -/
structure MergeBuffer where
  /-- The 16 buffers; `none` is FREE. -/
  buffers : Vector (Option Buffer) 16
  /-- The non-FREE buffers by age, oldest first (R24). -/
  ageOrder : List BufferId
  deriving DecidableEq, Repr

/-! ## The flush logic (Chapter 3) -/

/-- The flush order lists and the write-fault latches, one of each per source. -/
structure FlushLogic where
  order : Vector (List SlotId) 16
  latches : Vector Bool 16
  deriving DecidableEq, Repr

/-! ## The early-read store (Chapter 4) -/

/-- What an entry holds while its hint fetch waits or runs. A queued entry has no deadline. -/
structure HintFetch where
  queued : Bool
  attached : List SlotId
  deadline : Option Ticks
  deriving DecidableEq, Repr

/-- The states of an entry that is not FREE (section 4.1). -/
inductive EntryPhase where
  | pending (fetch : HintFetch)
  | stale (fetch : HintFetch)
  | held (data : LineData) (life : Ticks)
  | orphaned
  deriving DecidableEq, Repr

/-- The record of an entry that is not FREE (section 4.1). -/
structure Entry where
  line : Line
  hintedBy : Source
  phase : EntryPhase
  deriving DecidableEq, Repr

/-- The early-read store: 8 entries; `none` is FREE. -/
structure EarlyReadStore where
  entries : Vector (Option Entry) 8
  deriving DecidableEq, Repr

/-! ## The issue queue and the M-port (Chapter 6) -/

/-- A reference in the IQ (R101). -/
inductive IqRef where
  | slot (i : SlotId)
  | buffer (b : BufferId)
  | entry (e : EntryId)
  deriving DecidableEq, Repr

/-- A message the M-port sends (R104). -/
inductive MemMsg where
  | fetch (dtag : Dtag) (line : Line)
  | store (dtag : Dtag) (line : Line) (data : LineData)
  | storeMasked (dtag : Dtag) (line : Line) (payload : Payload)
  deriving DecidableEq, Repr

/-- The IQ and the M-port. The deadline of a dtag stands in the record of its owner. -/
structure MPort where
  up : Bool
  credits : Nat
  /-- The IQ, head first (R101). -/
  iq : List IqRef
  /-- The outstanding set and the orphaned set, no dtag twice (R109). -/
  outstanding : List Dtag
  orphaned : List Dtag
  /-- MODEL'S OWN: every message sent over the M-port since the cold reset, oldest first. -/
  sent : List MemMsg
  /-- MODEL'S OWN: how often the physical layer has been made to restart the link (R114). -/
  restarts : Nat
  deriving DecidableEq, Repr

/-! ## The response path (Chapter 7) -/

/-- The status of an acknowledgement (R120). -/
inductive AckStatus where
  | ok | fault
  deriving DecidableEq, Repr

/-- The kind of an acknowledgement (R120). -/
inductive AckKind where
  | write | flush
  deriving DecidableEq, Repr

/-- One entry of a bundle (R120). -/
structure Ack where
  tag : Tag
  kind : AckKind
  status : AckStatus
  deriving DecidableEq, Repr

/-- A bundle record (R120). -/
inductive BundleRecord where
  | empty
  | filling (acks : List Ack) (hold : Ticks)
  | sealed (acks : List Ack)
  deriving DecidableEq, Repr

/-- A reference in the RRL (R125). -/
inductive RrlRef where
  | slot (i : SlotId)
  | record (source : Source)
  deriving DecidableEq, Repr

/-- Why a request is rejected (R87). -/
inductive Reason where
  | outOfRange | emptyMask | duplicateTag
  deriving DecidableEq, Repr

/-- A message of the RQ (R128). -/
inductive Response where
  | readReturn (source : Source) (tag : Tag) (result : ReadResult)
  | bundle (source : Source) (acks : List Ack)
  | retry (source : Source) (tag : Tag) (kind : RequestKind)
  | reject (source : Source) (tag : Tag) (kind : RequestKind) (reason : Reason)
  deriving DecidableEq, Repr

/-- The response path. -/
structure ResponsePath where
  records : Vector BundleRecord 16
  /-- The RRL, head first (R125). -/
  rrl : List RrlRef
  /-- The RQ, head first (R128). -/
  rq : List Response
  /-- The H-port response credits held (R130). -/
  credits : Nat
  deriving DecidableEq, Repr

/-! ## The H-port (Chapter 9) and admission (Chapter 5) -/

/-- The three ingress lanes. -/
inductive Lane where
  | read | write | flush
  deriving DecidableEq, Repr

/-- A request in the read lane, with its arrival stamp. -/
inductive ReadLaneReq where
  | read (stamp : Nat) (source : Source) (tag : Tag) (line : Line)
  | hint (stamp : Nat) (source : Source) (line : Line)
  deriving DecidableEq, Repr

/-- A request in the write lane; `masked` says that it arrived as a MaskedWrite. -/
structure WriteReq where
  stamp : Nat
  source : Source
  tag : Tag
  line : Line
  masked : Bool
  payload : Payload
  deriving DecidableEq, Repr

/-- A request in the flush lane. -/
structure FlushReq where
  stamp : Nat
  source : Source
  tag : Tag
  deriving DecidableEq, Repr

/-- A message the H-port sends: the RQ's responses, and the Releases (R149). -/
inductive HostMsg where
  | response (r : Response)
  | release (lane : Lane)
  deriving DecidableEq, Repr

/-- The H-port. -/
structure HPort where
  up : Bool
  readLane : List ReadLaneReq
  writeLane : List WriteReq
  flushLane : List FlushReq
  /-- Released credits not yet used, for each lane (R154). -/
  readCredits : Nat
  writeCredits : Nat
  flushCredits : Nat
  /-- How many requests have been given a stamp since the port entered UP; the next stamp is one more (R151). -/
  arrivals : Nat
  /-- MODEL'S OWN: every message sent over the H-port since the cold reset, oldest first. -/
  sent : List HostMsg
  /-- MODEL'S OWN: how often the physical layer has been made to restart the link (R148). -/
  restarts : Nat
  deriving DecidableEq, Repr

/-- Admission: the last-served lane (R81). -/
structure Admission where
  lastServed : Lane
  deriving DecidableEq, Repr

/-! ## The source meter (Chapter 8) -/

/-- The six configuration fields of a meter record (section 8.1). -/
structure MeterConf where
  enabled : Bool
  ceiling : Nat
  floor : Nat
  enter : Nat
  exit : Nat
  limit : Nat
  deriving DecidableEq, Repr

/-- The states of a meter (section 8.1). -/
inductive MeterState where
  | off | calm | warm | throttled | cooling
  deriving DecidableEq, Repr

/-- A meter record (section 8.1): the configuration in force, the pending one, and where the source is in its course. -/
structure Meter where
  conf : MeterConf
  waiting : Option MeterConf
  state : MeterState
  streak : Nat
  accumulator : Nat
  deriving DecidableEq, Repr

/-- The source meter. -/
structure SourceMeter where
  meters : Vector Meter 16
  /-- The sample timer, which always runs (R137). -/
  sampleTimer : Ticks
  sampleCount : Nat
  deriving DecidableEq, Repr

/-! ## The management block (Chapter 10) -/

/-- The values in force of the configuration registers 0 to 10, with the staged high part of TOP_LINE (R160). -/
structure Registers where
  topLine : BitVec 41
  topLineStaged : BitVec 9
  mergeEnable : Bool
  mergeAge : Nat
  hintEnable : Bool
  hintLife : Nat
  bundleHold : Nat
  deadline : Nat
  meterSample : Nat
  meterWindow : Nat
  irqEnable : BitVec 32
  deriving DecidableEq, Repr

/-- The states of the quiesce controller (R163). -/
inductive QuiesceState where
  | run | draining | quiet
  deriving DecidableEq, Repr

/-- The seventeen notice kinds (R160, R167). -/
inductive NoticeKind where
  | readTimeout | readPoison | hintTimeout | hintPoison | drainTimeout | drainFail | lateResponse | strayResponse
  | excessGrantH | excessGrantM | ingressOverflow | rejected | throttleOn | throttleOff | hLinkDown | mLinkDown
  | quietReached
  deriving DecidableEq, Repr

/-- A notice record (R167); `none` is a field the record does not carry. -/
structure Notice where
  kind : NoticeKind
  time : BitVec 32
  source : Option Source
  tag : Option Tag
  line : Option Line
  dtag : Option Dtag
  reason : Option Reason
  deriving DecidableEq, Repr

/-- The 22 counters, in the order of the counter table (R168). -/
inductive Counter where
  | readsAdmitted | writesAdmitted | flushesAdmitted | hintsAccepted | hintsDropped | hintHits | retries | rejects
  | seals (cause : SealCause)
  | storesSent | fetchesSent | drainFaults | readTimeouts | strayResponses | noticesLost
  deriving DecidableEq, Repr

/-- The management block. -/
structure Management where
  regs : Registers
  quiesce : QuiesceState
  /-- The quiet status flag (R163). -/
  quietStatus : Bool
  /-- The notice log, oldest first (R165). -/
  notices : List Notice
  /-- The LOST flag (R165). -/
  lost : Bool
  /-- Counter register 64 + k is counter k (R168). -/
  counters : Vector (BitVec 32) 22
  /-- The time counter, in microseconds (R167). -/
  time : BitVec 32
  /-- MODEL'S OWN: how many 10 ns units of the current microsecond have passed, 0 to 99. -/
  subTime : Nat
  /-- The IRQ line (R169). -/
  irqLine : Bool
  /-- The 32 bits shifted out by the latest read that a command makes (R159, NOTICE_POP). -/
  readData : BitVec 32
  deriving DecidableEq, Repr

/-! ## The whole part -/

/-- The state of the part. -/
structure State where
  hport : HPort
  adm : Admission
  tt : TransactionTable
  mb : MergeBuffer
  fl : FlushLogic
  es : EarlyReadStore
  mport : MPort
  resp : ResponsePath
  meter : SourceMeter
  mgmt : Management
  /-- MODEL'S OWN: the commands that are waiting, first in first out. -/
  pending : List Instr
  /-- MODEL'S OWN: how many orders the spec leaves open have been drawn (Config.pressureFirst). -/
  choices : Nat
  deriving DecidableEq, Repr

/-! ## Cold reset -/

/-- The meter record after a cold reset (R147). -/
def Meter.reset : Meter where
  conf := { enabled := false, ceiling := 48, floor := 0, enter := 1, exit := 1, limit := 48 }
  waiting := none
  state := .off
  streak := 0
  accumulator := 0

/-- The configuration registers after a cold reset (R160, R170). -/
def Registers.reset : Registers where
  topLine := BitVec.ofNat 41 1099511627776
  topLineStaged := 256
  mergeEnable := true
  mergeAge := 64
  hintEnable := true
  hintLife := 8
  bundleHold := 20
  deadline := 100
  meterSample := 10
  meterWindow := 256
  irqEnable := 0

/-- The part right after a cold reset: R158, R81, R23, R48, R62, R80, R119, R136, R147 and R170, block by block. -/
def State.reset : State where
  hport :=
    { up := false, readLane := [], writeLane := [], flushLane := [], readCredits := 0, writeCredits := 0,
      flushCredits := 0, arrivals := 0, sent := [], restarts := 0 }
  adm := { lastServed := .flush }
  tt :=
    { slots := Vector.replicate 48 none, charges := { common := 0, read := 0, write := 0, flush := 0 }, tagMap := [],
      holding := Vector.replicate 16 0 }
  mb := { buffers := Vector.replicate 16 none, ageOrder := [] }
  fl := { order := Vector.replicate 16 [], latches := Vector.replicate 16 false }
  es := { entries := Vector.replicate 8 none }
  mport := { up := false, credits := 0, iq := [], outstanding := [], orphaned := [], sent := [], restarts := 0 }
  resp := { records := Vector.replicate 16 .empty, rrl := [], rq := [], credits := 0 }
  meter := { meters := Vector.replicate 16 Meter.reset, sampleTimer := 100, sampleCount := 0 }
  mgmt :=
    { regs := Registers.reset, quiesce := .run, quietStatus := false, notices := [], lost := false,
      counters := Vector.replicate 22 0, time := 0, subTime := 0, irqLine := false, readData := 0 }
  pending := []
  choices := 0

end Sys2Proof.Machine
end

