-- ==== Sys2Proof/Machine/Tables.lean ====
section
/-! DEFINITION. The one way to read and write each table of the state (slots, buffers, entries, bundle records, latches,
flush order lists, holding counts, meters, counters), the searches over them, and the queues' tails. -/

namespace Sys2Proof.Machine

/-- Entry `i` of a table. -/
def tget {α : Type} {n : Nat} (t : Vector α n) (i : Fin n) : α := t[i.val]

/-- The table with `x` at entry `i`. -/
def tset {α : Type} {n : Nat} (t : Vector α n) (i : Fin n) (x : α) : Vector α n := t.set i.val x

/-- Every entry of a table replaced by its image. -/
def tmap {α β : Type} {n : Nat} (f : α → β) (t : Vector α n) : Vector β n := Vector.ofFn fun i => f (tget t i)

/-- The slot numbers, ascending. -/
def slotIds : List SlotId := List.finRange 48
/-- The buffer numbers, ascending. -/
def bufferIds : List BufferId := List.finRange 16
/-- The entry numbers, ascending. -/
def entryIds : List EntryId := List.finRange 8
/-- The source numbers, ascending. -/
def sources : List Source := List.finRange 16

/-- TT slot `i`; `none` is FREE. -/
def State.slot (s : State) (i : SlotId) : Option Slot := tget s.tt.slots i
/-- MB buffer `b`; `none` is FREE. -/
def State.buffer (s : State) (b : BufferId) : Option Buffer := tget s.mb.buffers b
/-- ES entry `e`; `none` is FREE. -/
def State.entry (s : State) (e : EntryId) : Option Entry := tget s.es.entries e
/-- The bundle record of a source. -/
def State.record (s : State) (src : Source) : BundleRecord := tget s.resp.records src
/-- The write-fault latch of a source. -/
def State.latch (s : State) (src : Source) : Bool := tget s.fl.latches src
/-- The flush order list of a source. -/
def State.flushOrder (s : State) (src : Source) : List SlotId := tget s.fl.order src
/-- The holding count of a source. -/
def State.holdingOf (s : State) (src : Source) : Nat := tget s.tt.holding src
/-- The meter record of a source. -/
def State.meterOf (s : State) (src : Source) : Meter := tget s.meter.meters src

def State.setSlot (s : State) (i : SlotId) (x : Option Slot) : State :=
  { s with tt.slots := tset s.tt.slots i x }
def State.setBuffer (s : State) (b : BufferId) (x : Option Buffer) : State :=
  { s with mb.buffers := tset s.mb.buffers b x }
def State.setEntry (s : State) (e : EntryId) (x : Option Entry) : State :=
  { s with es.entries := tset s.es.entries e x }
def State.setRecord (s : State) (src : Source) (x : BundleRecord) : State :=
  { s with resp.records := tset s.resp.records src x }
def State.setLatch (s : State) (src : Source) (x : Bool) : State :=
  { s with fl.latches := tset s.fl.latches src x }
def State.setFlushOrder (s : State) (src : Source) (x : List SlotId) : State :=
  { s with fl.order := tset s.fl.order src x }
def State.setHolding (s : State) (src : Source) (x : Nat) : State :=
  { s with tt.holding := tset s.tt.holding src x }
def State.setMeter (s : State) (src : Source) (x : Meter) : State :=
  { s with meter.meters := tset s.meter.meters src x }

/-- A reference joins the tail of the IQ (R101). -/
def State.pushIq (s : State) (r : IqRef) : State := { s with mport.iq := s.mport.iq ++ [r] }
/-- A reference joins the tail of the RRL (R125). -/
def State.pushRrl (s : State) (r : RrlRef) : State := { s with resp.rrl := s.resp.rrl ++ [r] }
/-- A message joins the tail of the RQ (R128). -/
def State.pushRq (s : State) (m : Response) : State := { s with resp.rq := s.resp.rq ++ [m] }
/-- The H-port sends a message. -/
def State.sendHost (s : State) (m : HostMsg) : State := { s with hport.sent := s.hport.sent ++ [m] }
/-- The M-port sends a message. -/
def State.sendMem (s : State) (m : MemMsg) : State := { s with mport.sent := s.mport.sent ++ [m] }

/-! ## Dtags (R104, R109) -/

/-- Slot i is dtag i. -/
def slotDtag (i : SlotId) : Dtag := BitVec.ofNat 8 i.val
/-- Buffer b uses dtag 48 + b. -/
def bufferDtag (b : BufferId) : Dtag := BitVec.ofNat 8 (48 + b.val)
/-- Entry e uses dtag 64 + e. -/
def entryDtag (e : EntryId) : Dtag := BitVec.ofNat 8 (64 + e.val)

/-- Who owns a dtag: the table of section 6.6. A dtag above 71 has no owner. -/
def dtagOwner (d : Dtag) : Option IqRef :=
  if h : d.toNat < 48 then some (.slot ⟨d.toNat, h⟩)
  else if h : d.toNat - 48 < 16 then some (.buffer ⟨d.toNat - 48, h⟩)
  else if h : d.toNat - 64 < 8 then some (.entry ⟨d.toNat - 64, h⟩)
  else none

/-- The dtag leaves the outstanding and the orphaned set, if it stands in one (R109: it becomes free). -/
def State.dtagFree (s : State) (d : Dtag) : State :=
  { s with
    mport.outstanding := s.mport.outstanding.filter (· ≠ d)
    mport.orphaned := s.mport.orphaned.filter (· ≠ d) }

/-- The dtag moves from the outstanding set to the orphaned set (R110). -/
def State.dtagOrphan (s : State) (d : Dtag) : State :=
  { s with
    mport.outstanding := s.mport.outstanding.filter (· ≠ d)
    mport.orphaned := s.mport.orphaned.filter (· ≠ d) ++ [d] }

/-- The dtag joins the outstanding set (R109: its owner's request departs). -/
def State.dtagSend (s : State) (d : Dtag) : State :=
  { s with mport.outstanding := s.mport.outstanding.filter (· ≠ d) ++ [d] }

/-! ## Counters (R168) -/

/-- The place of a counter in the counter table: its register number less 64 (R168). -/
def counterIndex : Counter → Fin 22
  | .readsAdmitted => 0 | .writesAdmitted => 1 | .flushesAdmitted => 2 | .hintsAccepted => 3 | .hintsDropped => 4
  | .hintHits => 5 | .retries => 6 | .rejects => 7
  | .seals .full => 8 | .seals .count => 9 | .seals .age => 10 | .seals .pressure => 11 | .seals .read => 12
  | .seals .flush => 13 | .seals .quiesce => 14 | .seals .disabled => 15
  | .storesSent => 16 | .fetchesSent => 17 | .drainFaults => 18 | .readTimeouts => 19 | .strayResponses => 20
  | .noticesLost => 21

/-- The value of a counter. -/
def State.counter (s : State) (c : Counter) : BitVec 32 := tget s.mgmt.counters (counterIndex c)

/-- A counter advances by one and wraps from its largest value to 0 (R168). -/
def State.bump (s : State) (c : Counter) : State :=
  { s with mgmt.counters := tset s.mgmt.counters (counterIndex c) (s.counter c + 1) }

/-! ## Readings of single records -/

/-- The state of a record that decides whether acknowledgements may join it (R92, R52). -/
def BundleRecord.isSealed : BundleRecord → Bool
  | .sealed _ => true
  | .empty | .filling _ _ => false

/-- Whether a record is EMPTY. -/
def BundleRecord.isEmpty : BundleRecord → Bool
  | .empty => true
  | .sealed _ | .filling _ _ => false

/-- Whether a buffer is OPEN. -/
def Buffer.isOpen (b : Buffer) : Bool :=
  match b.phase with
  | .opened _ _ => true
  | .sealed _ _ _ _ | .draining _ _ _ _ | .orphaned _ => false

/-- Whether a buffer stops its line's next SEALED buffer from entering the IQ: it is queued, DRAINING or ORPHANED
(R37). -/
def Buffer.blocksLine (b : Buffer) : Bool :=
  match b.phase with
  | .opened _ _ => false
  | .sealed _ _ queued _ => queued
  | .draining _ _ _ _ => true
  | .orphaned _ => true

/-- Whether a buffer is SEALED and stands outside the IQ. -/
def Buffer.isUnqueued (b : Buffer) : Bool :=
  match b.phase with
  | .sealed _ _ queued _ => !queued
  | .opened _ _ | .draining _ _ _ _ | .orphaned _ => false

/-- Whether a buffer is a pressure seal on its way to memory: SEALED or DRAINING with seal_cause PRESSURE (R33). -/
def Buffer.isPressureSeal (b : Buffer) : Bool :=
  match b.phase with
  | .sealed _ cause _ _ => cause == .pressure
  | .draining _ cause _ _ => cause == .pressure
  | .opened _ _ | .orphaned _ => false

/-- The contributors set of a buffer; an ORPHANED buffer has none (section 2.1). -/
def Buffer.contributors (b : Buffer) : List Source :=
  match b.phase with
  | .opened c _ => c.contributors
  | .sealed c _ _ _ => c.contributors
  | .draining c _ _ _ => c.contributors
  | .orphaned _ => []

/-- Whether a flush of the source is registered on the buffer: it is SEALED or DRAINING and the source contributes
(R49). -/
def Buffer.covers (b : Buffer) (src : Source) : Bool :=
  match b.phase with
  | .sealed c _ _ _ => c.contributors.contains src
  | .draining c _ _ _ => c.contributors.contains src
  | .opened _ _ | .orphaned _ => false

/-- The buffer with its waiting_flushes changed; only SEALED and DRAINING buffers hold one. -/
def Buffer.mapFlushes (f : List SlotId → List SlotId) (b : Buffer) : Buffer :=
  match b.phase with
  | .sealed c cause queued w => { b with phase := .sealed c cause queued (f w) }
  | .draining c cause w deadline => { b with phase := .draining c cause (f w) deadline }
  | .opened _ _ | .orphaned _ => b

/-- Whether an entry is HELD. -/
def Entry.isHeld (e : Entry) : Bool :=
  match e.phase with
  | .held _ _ => true
  | .pending _ | .stale _ | .orphaned => false

/-- Whether a meter state is one in which admission applies the limit: THROTTLED or COOLING (R89). -/
def MeterState.isThrottled : MeterState → Bool
  | .throttled | .cooling => true
  | .off | .calm | .warm => false

/-! ## Searches -/

/-- Whether a buffer that is not FREE, for line `l`, has the property `p`. -/
def State.bufferHas (s : State) (b : BufferId) (l : Line) (p : Buffer → Bool) : Bool :=
  match s.buffer b with
  | some buf => buf.line == l && p buf
  | none => false

/-- The lowest-numbered FREE slot (R1). -/
def State.freeSlot? (s : State) : Option SlotId := slotIds.find? fun i => (s.slot i).isNone
/-- The lowest-numbered FREE buffer (R24). -/
def State.freeBuffer? (s : State) : Option BufferId := bufferIds.find? fun b => (s.buffer b).isNone
/-- The lowest-numbered FREE entry (R63). -/
def State.freeEntry? (s : State) : Option EntryId := entryIds.find? fun e => (s.entry e).isNone
/-- The OPEN buffer of a line; there is at most one (R25). -/
def State.openBuffer? (s : State) (l : Line) : Option BufferId :=
  bufferIds.find? fun b => s.bufferHas b l Buffer.isOpen
/-- Whether some buffer that is not FREE holds the line (R64). -/
def State.lineHasBuffer (s : State) (l : Line) : Bool :=
  bufferIds.any fun b => s.bufferHas b l fun _ => true
/-- The youngest buffer of a line that is not FREE (R24, R43). -/
def State.youngestBuffer? (s : State) (l : Line) : Option BufferId :=
  s.mb.ageOrder.reverse.find? fun b => s.bufferHas b l fun _ => true
/-- The oldest SEALED, unqueued buffer of a line (R37). -/
def State.nextSealed? (s : State) (l : Line) : Option BufferId :=
  s.mb.ageOrder.find? fun b => s.bufferHas b l Buffer.isUnqueued
/-- The oldest OPEN buffer, of whatever line (R33). -/
def State.oldestOpen? (s : State) : Option BufferId :=
  s.mb.ageOrder.find? fun b => (s.buffer b).any Buffer.isOpen
/-- The entry that is not FREE for a line; there is at most one (R63). -/
def State.entryOf? (s : State) (l : Line) : Option EntryId :=
  entryIds.find? fun e => (s.entry e).any fun x => x.line == l

end Sys2Proof.Machine
end

