-- ==== Sys2Proof/Machine/Operands.lean ====
section
/-! DEFINITION. The operand forms of the commands: byte masks and their data, and the fields, ranges and clamping of
written register values (R160, R161). -/

namespace Sys2Proof.Machine

/-! ## Masks and merged bytes (Chapter 2) -/

/-- The payload of a Write: all 64 positions supplied (section 2.2). -/
def fullPayload (data : LineData) : Payload := Vector.ofFn fun p => some (tget data p)

/-- The mask as the list of its positions, ascending. -/
def maskOf (p : Payload) : List (Fin 64) := (List.finRange 64).filter fun i => (tget p i).isSome

/-- A full mask: all 64 positions (00_scope.md, Byte mask). -/
def isFull (p : Payload) : Bool := (List.finRange 64).all fun i => (tget p i).isSome

/-- An empty mask: no position (00_scope.md, Byte mask). -/
def isEmptyMask (p : Payload) : Bool := (List.finRange 64).all fun i => (tget p i).isNone

/-- A merge: at every position the newcomer supplies its byte is kept, elsewhere the older byte (R27). -/
def mergePayload (old new : Payload) : Payload := Vector.ofFn fun p => (tget new p).or (tget old p)

/-- The 64 bytes of a full payload, as a Store carries them (R38). -/
def payloadLine (p : Payload) : LineData := Vector.ofFn fun i => (tget p i).getD 0

/-- A source joins a contributors set unless it is there already (R27). -/
def joinContributors (cs : List Source) (src : Source) : List Source := if cs.contains src then cs else cs ++ [src]

/-! ## Register fields (R160, R161) -/

/-- The field of `width` bits that begins at bit `low`. -/
def fieldOf (data : RegData) (low width : Nat) : Nat := (data.extractLsb' low width).toNat

/-- A value below its range is set to the lowest value of the range, one above to the highest (R161). -/
def clamp (low high n : Nat) : Nat := max low (min n high)

/-- Bit 0 of the data, the `on` field of MERGE_ENABLE and HINT_ENABLE. -/
def onField (data : RegData) : Bool := fieldOf data 0 1 == 1

/-- The bits of IRQ_ENABLE: 16 to 0 for the notice kinds and 31 for the quiet status (R160). -/
def irqMask : BitVec 32 := 0x8001FFFF

/-- TOP_LINE from the staged high part and the written low part, clamped to 2^40 (R160). -/
def topLineOf (staged : BitVec 9) (low : RegData) : BitVec 41 :=
  BitVec.ofNat 41 (min (staged.toNat * 4294967296 + low.toNat) 1099511627776)

/-- The six fields of a METER_CONF write, clamped (R160, R161). -/
def meterConfOf (data : RegData) : MeterConf where
  enabled := fieldOf data 31 1 == 1
  ceiling := clamp 1 48 (fieldOf data 24 6)
  floor := clamp 0 48 (fieldOf data 16 6)
  enter := clamp 1 15 (fieldOf data 12 4)
  exit := clamp 1 15 (fieldOf data 8 4)
  limit := clamp 1 48 (fieldOf data 0 6)

/-- A configuration is disabled when its enabled field is no or its floor is above its ceiling (section 8.1). -/
def MeterConf.isDisabled (c : MeterConf) : Bool := !c.enabled || c.ceiling < c.floor

/-! ## Timers (00_scope.md, Time) -/

/-- The deadline armed at a departure, `none` with DEADLINE 0 (R110). -/
def State.newDeadline (s : State) : Option Ticks :=
  if s.mgmt.regs.deadline = 0 then none else some (s.mgmt.regs.deadline * Config.ticksPerMicrosecond)

/-- The life of an entry that becomes HELD now (R75). -/
def State.newLife (s : State) : Ticks := s.mgmt.regs.hintLife * Config.ticksPerMicrosecond

/-- The sample timer started now (R137). -/
def State.newSampleTimer (s : State) : Ticks := s.mgmt.regs.meterSample * Config.ticksPerSampleUnit

end Sys2Proof.Machine
end

