-- ==== Sys2Proof/Machine/Flags.lean ====
section
/-! DEFINITION. The flags and status of the part and how each is computed: the IRQ line (R169), the notice log with its
LOST flag (R165), the quiet condition and quiet status (R164), and the write-fault latches (R56). -/

namespace Sys2Proof.Machine

/-! ## The IRQ line (R169) -/

/-- The code of a notice kind (R160). -/
def kindCode : NoticeKind → Nat
  | .readTimeout => 1 | .readPoison => 2 | .hintTimeout => 3 | .hintPoison => 4 | .drainTimeout => 5 | .drainFail => 6
  | .lateResponse => 7 | .strayResponse => 8 | .excessGrantH => 9 | .excessGrantM => 10 | .ingressOverflow => 11
  | .rejected => 12 | .throttleOn => 13 | .throttleOff => 14 | .hLinkDown => 15 | .mLinkDown => 16 | .quietReached => 17

/-- Whether IRQ_ENABLE enables a notice kind: bit k - 1 for kind k (R160). -/
def kindEnabled (enables : BitVec 32) (k : NoticeKind) : Bool := enables.getLsbD (kindCode k - 1)

/-- The level R169 gives the IRQ line: the oldest notice's kind is enabled, or the quiet status is set and enabled. -/
def State.irqLevel (s : State) : Bool :=
  (s.mgmt.notices.head?.any fun n => kindEnabled s.mgmt.regs.irqEnable n.kind)
    || (s.mgmt.quietStatus && s.mgmt.regs.irqEnable.getLsbD 31)

/-- The IRQ line is re-evaluated (R169). -/
def State.refreshIrq (s : State) : State := { s with mgmt.irqLine := s.irqLevel }

/-! ## The notice log (R165, R167) -/

/-- A notice record of the given kind with the time of this happening and no further field. -/
def State.notice (s : State) (k : NoticeKind) : Notice where
  kind := k
  time := s.mgmt.time
  source := none
  tag := none
  line := none
  dtag := none
  reason := none

/-- A notice is logged: appended if the log holds fewer than 16 records, and then the IRQ line follows it if the log was
empty (R169); else discarded, with NOTICES_LOST advanced and LOST set (R165). -/
def State.logNotice (s : State) (n : Notice) : State :=
  if s.mgmt.notices.length < Config.noticeLimit then
    if s.mgmt.notices.isEmpty then { s with mgmt.notices := [n] }.refreshIrq
    else { s with mgmt.notices := s.mgmt.notices ++ [n] }
  else { s with mgmt.lost := true }.bump .noticesLost

/-- The oldest record leaves the log and the IRQ line follows (R166, R169). -/
def State.popNotice (s : State) : State :=
  match s.mgmt.notices with
  | [] => s
  | _ :: rest => { s with mgmt.notices := rest }.refreshIrq

/-! ## The quiet condition (R164) -/

/-- Everything admitted has finished: slots, buffers, entries and the IQ, bundle records and the RRL are empty. The RQ, the
lanes and the credits are no part of it (R164). -/
def State.quietCondition (s : State) : Bool :=
  (slotIds.all fun i => (s.slot i).isNone)
    && (bufferIds.all fun b => (s.buffer b).isNone)
    && (entryIds.all fun e => (s.entry e).isNone)
    && s.mport.iq.isEmpty
    && (sources.all fun src => (s.record src).isEmpty)
    && s.resp.rrl.isEmpty

/-- Entry to QUIET, with QUIET_REACHED logged and the quiet status set (R164). -/
def State.enterQuiet (s : State) : State :=
  (({ s with mgmt.quiesce := .quiet, mgmt.quietStatus := true }.refreshIrq).logNotice (s.notice .quietReached))

/-- The end of a happening: DRAINING leads to QUIET if the quiet condition now holds (R164). -/
def State.checkQuiet (s : State) : State :=
  if s.mgmt.quiesce = .draining && s.quietCondition then s.enterQuiet else s

/-! ## The write-fault latches (R56) -/

/-- The latch of every contributor is set (R56). -/
def State.setLatches (s : State) (contributors : List Source) : State :=
  contributors.foldl (fun s src => s.setLatch src true) s

end Sys2Proof.Machine
end

