-- ==== Sys2Proof/Machine/Ops.lean ====
section
/-! DEFINITION. The named operations that several commands share, block by block: charging and freeing slots, the course of
a read, sealing, queueing and resolving buffers, counting down and completing flushes, the ends of hint fetches, and
filling and sealing bundle records. Each is one part of a happening. -/

namespace Sys2Proof.Machine

/-! ## Charges and slots (Chapter 1) -/

/-- The four pools (R3). -/
inductive Pool where
  | common | read | write | flush
  deriving DecidableEq, Repr

/-- The reserve of a kind (section 1.2). -/
def reserveOf : RequestKind → Pool
  | .read => .read
  | .write => .write
  | .maskedWrite => .write
  | .flush => .flush

/-- The pool a charge names, for a request of the given kind (section 1.1, charge). -/
def poolOf (k : RequestKind) : Charge → Pool
  | .common => .common
  | .reserve => reserveOf k

/-- The size of a pool (R3). -/
def poolSize : Pool → Nat
  | .common => Config.commonSlots
  | .read => Config.readReserve
  | .write => Config.writeReserve
  | .flush => Config.flushReserve

/-- The charge of a pool. -/
def Charges.of (c : Charges) : Pool → Nat
  | .common => c.common
  | .read => c.read
  | .write => c.write
  | .flush => c.flush

/-- The charges with one pool's charge changed. -/
def Charges.modify (c : Charges) (f : Nat → Nat) : Pool → Charges
  | .common => { c with common := f c.common }
  | .read => { c with read := f c.read }
  | .write => { c with write := f c.write }
  | .flush => { c with flush := f c.flush }

/-- The kind of the request a slot holds (section 1.1, kind). -/
def Slot.kind (sl : Slot) : RequestKind :=
  match sl.body with
  | .read _ _ _ => .read
  | .write _ false _ => .write
  | .write _ true _ => .maskedWrite
  | .flush _ => .flush

/-- The pool a slot's charge goes back to (R2). -/
def Slot.pool (sl : Slot) : Pool := poolOf sl.kind sl.charge

/-- How a request of kind `k` would be charged: to the common pool if it has room, else to its reserve if that has (R3). -/
def State.chargeFor (s : State) (k : RequestKind) : Option Charge :=
  if s.tt.charges.common < Config.commonSlots then some .common
  else if s.tt.charges.of (reserveOf k) < poolSize (reserveOf k) then some .reserve
  else none

/-- The slot and the charge an admission of kind `k` would take (R1, R3); `none` is the want of a slot. -/
def State.slotFor (s : State) (k : RequestKind) : Option (SlotId × Charge) :=
  match s.freeSlot?, s.chargeFor k with
  | some i, some c => some (i, c)
  | _, _ => none

/-- The TT takes slot `i` for a request: the record is written and charged, the holding count rises and the pair enters
the tag map (R1, R3, R6, R9). -/
def State.takeSlot (s : State) (i : SlotId) (sl : Slot) : State :=
  { s with
    tt.slots := tset s.tt.slots i (some sl)
    tt.charges := s.tt.charges.modify (· + 1) sl.pool
    tt.holding := tset s.tt.holding sl.source (s.holdingOf sl.source + 1)
    tt.tagMap := s.tt.tagMap ++ [(sl.source, sl.tag)] }

/-- A slot becomes FREE: its charge goes back to its pool, the holding count falls, the record is cleared and its dtag is
neither outstanding nor orphaned any more (R2). A FREE slot stays as it is. -/
def State.freeSlot (s : State) (i : SlotId) : State :=
  match s.slot i with
  | none => s
  | some sl =>
    { s with
      tt.slots := tset s.tt.slots i none
      tt.charges := s.tt.charges.modify (· - 1) sl.pool
      tt.holding := tset s.tt.holding sl.source (s.holdingOf sl.source - 1) }.dtagFree (slotDtag i)

/-- A live pair leaves the tag map (R7). -/
def State.dropPair (s : State) (src : Source) (tag : Tag) : State :=
  { s with tt.tagMap := s.tt.tagMap.filter (· ≠ (src, tag)) }

/-! ## The course of a read (section 1.5) -/

/-- A read slot goes on to another state of its course; any other slot stays as it is. -/
def State.setCourse (s : State) (i : SlotId) (c : ReadCourse) : State :=
  match s.slot i with
  | some ⟨src, tag, charge, .read line detached _⟩ => s.setSlot i (some ⟨src, tag, charge, .read line detached c⟩)
  | _ => s

/-- Whether a course is WAIT_WRITE or ATTACHED: the read waits for another fetch or store to end (R16, R17). -/
def ReadCourse.isWaiting : ReadCourse → Bool
  | .waitWrite _ | .attached _ => true
  | .ready | .issued _ | .returned _ _ | .orphaned => false

/-- Whether a course is ISSUED or ATTACHED: the read waits for data (R12, R17). -/
def ReadCourse.isFetching : ReadCourse → Bool
  | .issued _ | .attached _ => true
  | .ready | .waitWrite _ | .returned _ _ | .orphaned => false

/-- A WAIT_WRITE or ATTACHED read slot becomes READY and enters the tail of the IQ (R16, R17). -/
def State.becomeReady (s : State) (i : SlotId) : State :=
  match s.slot i with
  | some ⟨_, _, _, .read _ _ course⟩ => if course.isWaiting then (s.setCourse i .ready).pushIq (.slot i) else s
  | _ => s

/-- An ISSUED or ATTACHED read slot becomes RETURNED. Not detached, its reference joins the RRL (R15). Detached, it becomes
FREE, or ORPHANED if its orphan flag is yes, and nothing joins the RRL (R20). -/
def State.becomeReturned (s : State) (i : SlotId) (r : ReadResult) (orphan : Bool) : State :=
  match s.slot i with
  | some ⟨_, _, _, .read _ detached course⟩ =>
    if !course.isFetching then s
    else if !detached then (s.setCourse i (.returned r orphan)).pushRrl (.slot i)
    else if orphan then s.setCourse i .orphaned
    else s.freeSlot i
  | _ => s

/-- Several slots become READY, in list order (R16, R17). -/
def State.wakeReads (s : State) (l : List SlotId) : State := l.foldl (fun s i => s.becomeReady i) s

/-- The attached reads of a hint fetch become RETURNED with its data, in list order (R67, R68). -/
def State.serveAttached (s : State) (l : List SlotId) (data : LineData) : State :=
  l.foldl (fun s i => s.becomeReturned i (.ok data) false) s

/-! ## Bundle records (section 7.1) -/

/-- A FILLING record is sealed: its timer stops and its reference joins the RRL (R123). An EMPTY or SEALED record stays as
it is. -/
def State.sealRecord (s : State) (src : Source) : State :=
  match s.record src with
  | .filling acks _ => (s.setRecord src (.sealed acks)).pushRrl (.record src)
  | .empty | .sealed _ => s

/-- An acknowledgement is added at the end of its source's record (R121): the first starts the hold timer, or with
BUNDLE_HOLD 0 seals the record (R122), and the eighth seals it. A SEALED record takes none. -/
def State.addAck (s : State) (src : Source) (a : Ack) : State :=
  match s.record src with
  | .empty =>
    let filled := s.setRecord src (.filling [a] s.mgmt.regs.bundleHold)
    if s.mgmt.regs.bundleHold = 0 then filled.sealRecord src else filled
  | .filling acks hold =>
    let filled := s.setRecord src (.filling (acks ++ [a]) hold)
    if Config.bundleLimit ≤ acks.length + 1 then filled.sealRecord src else filled
  | .sealed _ => s

/-! ## Sealing and queueing buffers (Chapter 2) -/

/-- Whether the line of buffer `b` is clear: no other buffer of it is queued, DRAINING or ORPHANED (R37). -/
def State.lineClear (s : State) (b : BufferId) (l : Line) : Bool :=
  bufferIds.all fun b' => b' == b || !s.bufferHas b' l Buffer.blocksLine

/-- The line-clear rule applied to buffer `b`: SEALED and unqueued with its line clear, it enters the IQ tail (R37). -/
def State.offerBuffer (s : State) (b : BufferId) : State :=
  match s.buffer b with
  | some ⟨line, merged, openedAt, reads, .sealed c cause false flushes⟩ =>
    if s.lineClear b line then
      (s.setBuffer b (some ⟨line, merged, openedAt, reads, .sealed c cause true flushes⟩)).pushIq (.buffer b)
    else s
  | _ => s

/-- The line-clear rule applied to the oldest SEALED, unqueued buffer of a line (R37). -/
def State.offerNext (s : State) (l : Line) : State :=
  match s.nextSealed? l with
  | some b => s.offerBuffer b
  | none => s

/-- An OPEN buffer is sealed: the cause is set, the timer stops, the SEALS counter advances and the line-clear rule is
applied (R31). A buffer that is not OPEN stays as it is. -/
def State.sealBuffer (s : State) (b : BufferId) (cause : SealCause) : State :=
  match s.buffer b with
  | some ⟨line, merged, openedAt, reads, .opened c _⟩ =>
    ((s.setBuffer b (some ⟨line, merged, openedAt, reads, .sealed c cause false []⟩)).bump (.seals cause)).offerBuffer b
  | _ => s

/-- Several buffers are sealed one after another with one cause (R35, R36). -/
def State.sealBuffers (s : State) (l : List BufferId) (cause : SealCause) : State :=
  l.foldl (fun s b => s.sealBuffer b cause) s

/-- The buffer a pressure request would seal: the oldest OPEN one, unless a pressure seal is on its way (R33). -/
def State.pressureTarget (s : State) : Option BufferId :=
  if bufferIds.any fun b => (s.buffer b).any Buffer.isPressureSeal then none else s.oldestOpen?

/-- A pressure request (R33). -/
def State.pressureRequest (s : State) : State :=
  match s.pressureTarget with
  | some b => s.sealBuffer b .pressure
  | none => s

/-! ## Completing flushes (Chapter 3) -/

/-- A flush completes: the status comes from the latch, which is cleared, the slot leaves the flush order list, the
acknowledgement joins the bundle record, the slot becomes FREE and the record is sealed (R53). -/
def State.completeFlush (s : State) (i : SlotId) (src : Source) (tag : Tag) : State :=
  let status := if s.latch src then AckStatus.fault else AckStatus.ok
  ((((s.setLatch src false).setFlushOrder src ((s.flushOrder src).drop 1)).addAck src ⟨tag, .flush, status⟩).freeSlot
    i).sealRecord src

/-- The head of a source's flush order list is checked and completes if it is finished (remaining 0) and the source's
record is not SEALED (R52, R54). -/
def State.checkFlush (s : State) (src : Source) : State :=
  match s.flushOrder src with
  | [] => s
  | i :: _ =>
    match s.slot i with
    | some ⟨_, tag, _, .flush 0⟩ => if (s.record src).isSealed then s else s.completeFlush i src tag
    | _ => s

/-- One flush is counted down by a resolution, and is checked when it reaches 0 (R51, R52). -/
def State.countDown (s : State) (i : SlotId) : State :=
  match s.slot i with
  | some ⟨src, tag, charge, .flush remaining⟩ =>
    let lowered := s.setSlot i (some ⟨src, tag, charge, .flush (remaining - 1)⟩)
    if remaining - 1 = 0 then lowered.checkFlush src else lowered
  | _ => s

/-- The flushes on a resolved buffer's list are counted down, in list order (R51, R55). -/
def State.countDownAll (s : State) (l : List SlotId) : State := l.foldl (fun s i => s.countDown i) s

/-! ## Resolving buffers (section 2.5) -/

/-- Whether a slot is MERGED into buffer `b`. -/
def mergedInto (b : BufferId) (x : Option Slot) : Bool :=
  match x with
  | some ⟨_, _, _, .write _ _ b'⟩ => b' == b
  | _ => false

/-- Every MERGED slot that names buffer `b` becomes FREE (R18). -/
def State.freeMerged (s : State) (b : BufferId) : State :=
  slotIds.foldl (fun s i => if mergedInto b (s.slot i) then s.freeSlot i else s) s

/-- Buffer `b` becomes FREE: its reads are woken, its record is cleared, and the next buffer of its line is offered to the
IQ behind them (R39 steps 3 to 5, R42, R44, R46). -/
def State.freeBuffer (s : State) (b : BufferId) (line : Line) (reads : List SlotId) : State :=
  let woken := s.wakeReads reads
  { woken with
    mb.buffers := tset woken.mb.buffers b none
    mb.ageOrder := woken.mb.ageOrder.filter (· ≠ b) }.offerNext line

/-- The resolution of a DRAINING buffer that frees it: R39, steps 1 to 5. -/
def State.resolveBuffer (s : State) (b : BufferId) (line : Line) (flushes reads : List SlotId) : State :=
  ((s.freeMerged b).countDownAll flushes).freeBuffer b line reads

/-! ## Entries (Chapter 4) -/

/-- A write admitted to a line reaches the entry of that line: PENDING becomes STALE and HELD becomes FREE (R74). -/
def State.writeMeetsEntry (s : State) (l : Line) : State :=
  match s.entryOf? l with
  | none => s
  | some e =>
    match s.entry e with
    | some ⟨line, src, .pending f⟩ => s.setEntry e (some ⟨line, src, .stale f⟩)
    | some ⟨_, _, .held _ _⟩ => s.setEntry e none
    | _ => s

/-- Every HELD entry becomes FREE (R76, R77). -/
def State.freeHeld (s : State) : State :=
  { s with es.entries := tmap (fun x => if x.any Entry.isHeld then none else x) s.es.entries }

/-- The end of a hint fetch with good data for a PENDING entry: HELD while hints are on and the controller is RUN, else
FREE (R67). -/
def State.holdEntry (s : State) (e : EntryId) (line : Line) (src : Source) (data : LineData) : State :=
  if s.mgmt.regs.hintEnable && s.mgmt.quiesce = .run then s.setEntry e (some ⟨line, src, .held data s.newLife⟩)
  else s.setEntry e none

/-! ## Several sources at once -/

/-- Every FILLING record is sealed, in ascending source number (R124). -/
def State.sealFilling (s : State) : State := sources.foldl (fun s src => s.sealRecord src) s

/-- Every OPEN buffer is sealed with one cause, in ascending buffer number (R36). -/
def State.sealOpen (s : State) (cause : SealCause) : State := s.sealBuffers bufferIds cause

end Sys2Proof.Machine
end

