-- ==== Sys2Proof/Machine/Admission.lean ====
section
/-! DEFINITION. Admission (Chapter 5): the judgement of the lane heads (R82 to R92, R96), the pressure request (R93), the
round-robin choice (R83) and the carrying out of the served head (R88, R90, R91, R94, R95, R96). -/

namespace Sys2Proof.Machine

/-! ## Judgement -/

/-- What a servable head is served with (R82). -/
inductive Service where
  /-- It is admitted into the slot, with the charge. -/
  | admits (slot : SlotId) (charge : Charge)
  | reject (reason : Reason)
  | retry
  /-- A Hint is accepted into the entry, or with `none` dropped. -/
  | hint (entry : Option EntryId)
  deriving DecidableEq, Repr

/-- The judgement of a lane head (R82). -/
inductive Judgement where
  /-- The lane holds no request. -/
  | noHead
  | waits
  /-- It waits for a buffer, and the decision carries a pressure request (R93). -/
  | wantsBuffer
  | serves (service : Service)
  deriving DecidableEq, Repr

/-- A Reject or Retry can be answered: the RQ has a free place and the RRL is empty (R88, R90). -/
def State.canAnswer (s : State) : Bool := s.resp.rq.length < Config.rqPlaces && s.resp.rrl.isEmpty

/-- A head judged for Reject or Retry is servable while it can be answered, else it waits (R88, R90). -/
def State.answered (s : State) (sv : Service) : Judgement := if s.canAnswer then .serves sv else .waits

/-- The line is at or above TOP_LINE (R87, R64). -/
def State.outOfRange (s : State) (l : Line) : Bool := s.mgmt.regs.topLine.toNat ≤ l.toNat

/-- The pair is in the tag map (R87). -/
def State.isLive (s : State) (src : Source) (tag : Tag) : Bool := s.tt.tagMap.contains (src, tag)

/-- The throttle check: the source is THROTTLED or COOLING and holds at least its limit in force (R89, R145). -/
def State.mustRetry (s : State) (src : Source) : Bool :=
  (s.meterOf src).state.isThrottled && (s.meterOf src).conf.limit ≤ s.holdingOf src

/-- The guard at a Read: the write lane holds an earlier-stamped request to the same line (R85). -/
def State.readHeld (s : State) (stamp : Nat) (l : Line) : Bool :=
  s.hport.writeLane.any fun w => w.stamp < stamp && w.line == l

/-- Whether a request of the read lane is a Read, earlier-stamped and to the line; a Hint holds no head (R85). -/
def ReadLaneReq.holdsWrite (stamp : Nat) (l : Line) : ReadLaneReq → Bool
  | .read stamp' _ _ l' => stamp' < stamp && l' == l
  | .hint _ _ _ => false

/-- The guard at a Write or MaskedWrite (R85). -/
def State.writeHeld (s : State) (stamp : Nat) (l : Line) : Bool :=
  s.hport.readLane.any (ReadLaneReq.holdsWrite stamp l)

/-- The guard at a Flush: the write lane holds an earlier-stamped request of the same source (R86). -/
def State.flushHeld (s : State) (stamp : Nat) (src : Source) : Bool :=
  s.hport.writeLane.any fun w => w.stamp < stamp && w.source == src

/-- The entry a Hint would take; `none` when a condition of R64 drops it. -/
def State.hintEntry (s : State) (l : Line) : Option EntryId :=
  if !s.mgmt.regs.hintEnable || !s.mport.up || s.outOfRange l || (s.entryOf? l).isSome || s.lineHasBuffer l then none
  else s.freeEntry?

/-- Where the MB can place a write: into the OPEN buffer of its line, or into a buffer it opens (R29). -/
inductive Placement where
  | merge (buffer : BufferId)
  | opens (buffer : BufferId)
  deriving DecidableEq, Repr

/-- The placement of a write to a line; while MERGE_ENABLE is off every write opens a buffer of its own (R29, R30). -/
def State.placement (s : State) (l : Line) : Option Placement :=
  match (if s.mgmt.regs.mergeEnable then s.openBuffer? l else none) with
  | some b => some (.merge b)
  | none => s.freeBuffer?.map .opens

/-- The resource step of a Read or Flush: a slot (R91, R95). -/
def State.admitIfSlot (s : State) (k : RequestKind) : Judgement :=
  match s.slotFor k with
  | some (i, c) => .serves (.admits i c)
  | none => .waits

/-- The judgement of the read lane head: Hint, guard, validation, throttle, resources (R82). -/
def State.judgeRead (s : State) : Judgement :=
  match s.hport.readLane with
  | [] => .noHead
  | .hint _ _ l :: _ => .serves (.hint (s.hintEntry l))
  | .read stamp src tag l :: _ =>
    if s.readHeld stamp l then .waits
    else if s.outOfRange l then s.answered (.reject .outOfRange)
    else if s.isLive src tag then s.answered (.reject .duplicateTag)
    else if s.mustRetry src then s.answered .retry
    else s.admitIfSlot .read

/-- The kind a Write or MaskedWrite is taken as from the second check on: with a full mask it is a Write (R87). -/
def WriteReq.kind (w : WriteReq) : RequestKind := if w.masked && !isFull w.payload then .maskedWrite else .write

/-- The judgement of the write lane head (R82, R87, R92, R93). -/
def State.judgeWrite (s : State) : Judgement :=
  match s.hport.writeLane with
  | [] => .noHead
  | w :: _ =>
    if s.writeHeld w.stamp w.line then .waits
    else if s.outOfRange w.line then s.answered (.reject .outOfRange)
    else if w.masked && isEmptyMask w.payload then s.answered (.reject .emptyMask)
    else if s.isLive w.source w.tag then s.answered (.reject .duplicateTag)
    else if s.mustRetry w.source then s.answered .retry
    else if (s.placement w.line).isNone then .wantsBuffer
    else if (s.record w.source).isSealed then .waits
    else s.admitIfSlot w.kind

/-- The judgement of the flush lane head: no line, no mask, no throttle (R82, R87, R89). -/
def State.judgeFlush (s : State) : Judgement :=
  match s.hport.flushLane with
  | [] => .noHead
  | f :: _ =>
    if s.flushHeld f.stamp f.source then .waits
    else if s.isLive f.source f.tag then s.answered (.reject .duplicateTag)
    else s.admitIfSlot .flush

/-- The judgement of a lane's head (R82, R97). -/
def State.judge (s : State) : Lane → Judgement
  | .read => s.judgeRead
  | .write => s.judgeWrite
  | .flush => s.judgeFlush

/-- The order of search after the last-served lane: the table of R83. -/
def searchOrder : Lane → List Lane
  | .read => [.write, .flush, .read]
  | .write => [.flush, .read, .write]
  | .flush => [.read, .write, .flush]

/-- The service of a judgement. -/
def Judgement.service : Judgement → Option Service
  | .serves sv => some sv
  | .noHead | .waits | .wantsBuffer => none

/-- The head a decision serves: the first servable one in the order of search (R83). -/
def State.pick (s : State) : Option (Lane × Service) :=
  (searchOrder s.adm.lastServed).findSome? fun l => (s.judge l).service.map fun sv => (l, sv)

/-! ## Carrying out a service -/

/-- The served head leaves its lane: one Release, one released credit more, and the lane is the last served (R153, R154,
R81). -/
def State.leaveLane (s : State) (l : Lane) : State :=
  let released := { s with adm.lastServed := l }.sendHost (.release l)
  match l with
  | .read => { released with hport.readLane := s.hport.readLane.drop 1, hport.readCredits := s.hport.readCredits + 1 }
  | .write =>
    { released with hport.writeLane := s.hport.writeLane.drop 1, hport.writeCredits := s.hport.writeCredits + 1 }
  | .flush =>
    { released with hport.flushLane := s.hport.flushLane.drop 1, hport.flushCredits := s.hport.flushCredits + 1 }

/-- A Reject: its message joins the RQ, REJECTED is logged and REJECTS advances (R88, R133). -/
def State.serveReject (s : State) (src : Source) (tag : Tag) (line : Option Line) (k : RequestKind) (r : Reason) :
    State :=
  (((s.pushRq (.reject src tag k r)).logNotice
    { s.notice .rejected with source := some src, tag := some tag, line := line, reason := some r }).bump .rejects)

/-- A Retry: its message joins the RQ and RETRIES advances; no notice is logged (R90, R133). -/
def State.serveRetry (s : State) (src : Source) (tag : Tag) (k : RequestKind) : State :=
  (s.pushRq (.retry src tag k)).bump .retries

/-- The outcome of a read that neither early-read outcome takes: it waits on the youngest buffer of its line, an OPEN one
being sealed with READ, or becomes READY at the IQ tail (R10, R34, R43). -/
def State.admitReadPlain (s : State) (i : SlotId) (src : Source) (tag : Tag) (c : Charge) (l : Line) : State :=
  match s.youngestBuffer? l with
  | some b =>
    let taken := (s.takeSlot i ⟨src, tag, c, .read l false (.waitWrite b)⟩).sealBuffer b .read
    taken.setBuffer b ((taken.buffer b).map fun x => { x with waitingReads := x.waitingReads ++ [i] })
  | none => (s.takeSlot i ⟨src, tag, c, .read l false .ready⟩).pushIq (.slot i)

/-- The outcome of a read: served from a HELD entry or attached to a PENDING one, with HINT_HITS, else as without the ES
(R10, R72). -/
def State.readOutcome (s : State) (i : SlotId) (src : Source) (tag : Tag) (c : Charge) (l : Line) : State :=
  match s.entryOf? l with
  | none => s.admitReadPlain i src tag c l
  | some e =>
    match s.entry e with
    | some ⟨_, _, .held data _⟩ =>
      ((s.takeSlot i ⟨src, tag, c, .read l false (.returned (.ok data) false)⟩).pushRrl (.slot i)).bump .hintHits
    | some ⟨line, by', .pending f⟩ =>
      ((s.takeSlot i ⟨src, tag, c, .read l false (.attached e)⟩).setEntry e
        (some ⟨line, by', .pending { f with attached := f.attached ++ [i] }⟩)).bump .hintHits
    | _ => s.admitReadPlain i src tag c l

/-- A Read is admitted (R91). -/
def State.admitRead (s : State) (i : SlotId) (c : Charge) (src : Source) (tag : Tag) (l : Line) : State :=
  (s.readOutcome i src tag c l).bump .readsAdmitted

/-- The seal checks after an opening or a merge: FULL before COUNT (R28). -/
def State.sealChecks (s : State) (b : BufferId) : State :=
  match s.buffer b with
  | some ⟨_, merged, _, _, .opened c _⟩ =>
    if isFull c.payload then s.sealBuffer b .full
    else if Config.mergeLimit ≤ merged then s.sealBuffer b .count
    else s
  | _ => s

/-- The MB opens a FREE buffer for a write: it is the youngest (R24, R26). -/
def State.openBuffer (s : State) (b : BufferId) (src : Source) (l : Line) (p : Payload) : State :=
  { s.setBuffer b (some ⟨l, 1, s.mgmt.time, [], .opened ⟨p, [src]⟩ s.mgmt.regs.mergeAge⟩) with
    mb.ageOrder := s.mb.ageOrder ++ [b] }

/-- A write is merged into the OPEN buffer of its line (R27). -/
def State.mergeInto (s : State) (b : BufferId) (src : Source) (p : Payload) : State :=
  match s.buffer b with
  | some ⟨line, merged, openedAt, reads, .opened c age⟩ =>
    s.setBuffer b
      (some
        ⟨line, merged + 1, openedAt, reads,
          .opened ⟨mergePayload c.payload p, joinContributors c.contributors src⟩ age⟩)
  | _ => s

/-- The MB takes a write: an opening or a merge with the seal checks, or, while merging is off, an opening sealed with
DISABLED (R26, R27, R28, R30). -/
def State.placeWrite (s : State) (pl : Placement) (src : Source) (l : Line) (p : Payload) : State :=
  match pl with
  | .merge b => (s.mergeInto b src p).sealChecks b
  | .opens b =>
    if s.mgmt.regs.mergeEnable then (s.openBuffer b src l p).sealChecks b
    else (s.openBuffer b src l p).sealBuffer b .disabled

/-- The buffer of a placement. -/
def Placement.buffer : Placement → BufferId
  | .merge b => b
  | .opens b => b

/-- A Write or MaskedWrite is admitted: the steps of R94. Without a placement it is not admitted. -/
def State.admitWrite (s : State) (i : SlotId) (c : Charge) (w : WriteReq) : State :=
  match s.placement w.line with
  | none => s
  | some pl =>
    (((((s.takeSlot i ⟨w.source, w.tag, c, .write w.line (w.kind == .maskedWrite) pl.buffer⟩).placeWrite pl w.source
      w.line w.payload).writeMeetsEntry w.line).addAck w.source ⟨w.tag, .write, .ok⟩).bump .writesAdmitted)

/-- The buffers a source's flush seals: the OPEN ones it contributes to, ascending (R35). -/
def State.openOf (s : State) (src : Source) : List BufferId :=
  bufferIds.filter fun b => (s.buffer b).any fun x => x.isOpen && x.contributors.contains src

/-- The covered set of a source's flush: the SEALED and DRAINING buffers it contributes to (R49). -/
def State.coveredBy (s : State) (src : Source) : List BufferId :=
  bufferIds.filter fun b => (s.buffer b).any fun x => x.covers src

/-- The flush in slot `i` joins the waiting_flushes of every buffer of its covered set (R49). -/
def State.registerFlush (s : State) (i : SlotId) (src : Source) : State :=
  { s with
    mb.buffers :=
      tmap (Option.map fun x => if x.covers src then x.mapFlushes (· ++ [i]) else x) s.mb.buffers }

/-- A Flush is admitted: the steps of R95. -/
def State.admitFlush (s : State) (i : SlotId) (c : Charge) (src : Source) (tag : Tag) : State :=
  let sealedOff := s.sealBuffers (s.openOf src) .flush
  let registered :=
    (sealedOff.registerFlush i src).takeSlot i ⟨src, tag, c, .flush (sealedOff.coveredBy src).length⟩
  ((registered.setFlushOrder src (registered.flushOrder src ++ [i])).checkFlush src).bump .flushesAdmitted

/-- A Hint is accepted into an entry (R65) or dropped (R64). -/
def State.serveHint (s : State) (src : Source) (l : Line) : Option EntryId → State
  | some e =>
    ((s.setEntry e (some ⟨l, src, .pending ⟨true, [], none⟩⟩)).pushIq (.entry e)).bump .hintsAccepted
  | none => s.bump .hintsDropped

/-- The read lane head is carried out with its service. -/
def State.serveRead (s : State) (req : ReadLaneReq) (sv : Service) : State :=
  match req, sv with
  | .read _ src tag l, .admits i c => s.admitRead i c src tag l
  | .read _ src tag l, .reject r => s.serveReject src tag (some l) .read r
  | .read _ src tag _, .retry => s.serveRetry src tag .read
  | .hint _ src l, .hint e => s.serveHint src l e
  | _, _ => s

/-- The kind a rejected write's message carries: a MaskedWrite keeps its kind for OUT_OF_RANGE and EMPTY_MASK, and with a
full mask is a Write for DUPLICATE_TAG (R133). -/
def WriteReq.rejectKind (w : WriteReq) (r : Reason) : RequestKind :=
  match r with
  | .duplicateTag => w.kind
  | .outOfRange | .emptyMask => if w.masked then .maskedWrite else .write

/-- The write lane head is carried out with its service. -/
def State.serveWrite (s : State) (w : WriteReq) (sv : Service) : State :=
  match sv with
  | .admits i c => s.admitWrite i c w
  | .reject r => s.serveReject w.source w.tag (some w.line) (w.rejectKind r) r
  | .retry => s.serveRetry w.source w.tag w.kind
  | .hint _ => s

/-- The flush lane head is carried out with its service. -/
def State.serveFlush (s : State) (f : FlushReq) (sv : Service) : State :=
  match sv with
  | .admits i c => s.admitFlush i c f.source f.tag
  | .reject r => s.serveReject f.source f.tag none .flush r
  | .retry => s
  | .hint _ => s

/-- A lane's head is served and leaves its lane (R83). -/
def State.serve (s : State) (l : Lane) (sv : Service) : State :=
  match l with
  | .read =>
    match s.hport.readLane with
    | req :: _ => (s.serveRead req sv).leaveLane .read
    | [] => s
  | .write =>
    match s.hport.writeLane with
    | w :: _ => (s.serveWrite w sv).leaveLane .write
    | [] => s
  | .flush =>
    match s.hport.flushLane with
    | f :: _ => (s.serveFlush f sv).leaveLane .flush
    | [] => s

/-- What a decision does: a pressure request of the write lane head and the service of the picked head. Where both have
an effect their order is a free value (R83, R93, notes/assumptions/2.md). -/
def State.decide (s : State) : State :=
  match s.judgeWrite, s.pick with
  | .wantsBuffer, none => s.pressureRequest
  | .wantsBuffer, some (l, sv) =>
    match s.pressureTarget with
    | none => s.serve l sv
    | some _ =>
      let drawn := { s with choices := s.choices + 1 }
      if Config.pressureFirst s.choices then drawn.pressureRequest.serve l sv else (drawn.serve l sv).pressureRequest
  | _, some (l, sv) => s.serve l sv
  | _, none => s

/-- DECISION (R83, R84): none is taken while the controller is DRAINING or QUIET. -/
def execDecision (s : State) : Host.Outcome State Fault Refusal :=
  if s.mgmt.quiesce = .run then .next s.decide else .next s

end Sys2Proof.Machine
end

