-- ==== Sys2Proof/Machine/Answers.lean ====
section
/-! DEFINITION. The messages the M-port receives: FetchData and StoreDone with their matching by dtag (R105, R111, R112),
and Grant (R107). -/

namespace Sys2Proof.Machine

/-- A stray answer is discarded with STRAY_RESPONSE (R112). -/
def State.strayAnswer (s : State) (d : Dtag) : State :=
  (s.logNotice { s.notice .strayResponse with dtag := some d }).bump .strayResponses

/-- LATE_RESPONSE of a late answer; only a slot's carries a source (R167). -/
def State.logLate (s : State) (src : Option Source) (line : Line) (d : Dtag) : State :=
  s.logNotice { s.notice .lateResponse with source := src, line := some line, dtag := some d }

/-! ## FetchData -/

/-- The answer to an ISSUED read: RETURNED with OK or POISON, POISON with READ_POISON (R12). -/
def State.answerSlot (s : State) (i : SlotId) (status : FetchStatus) (data : LineData) : State :=
  match s.slot i with
  | some ⟨src, tag, _, .read line _ (.issued _)⟩ =>
    match status with
    | .ok => s.becomeReturned i (.ok data) false
    | .poison =>
      (s.logNotice
        { s.notice .readPoison with
          source := some src, tag := some tag, line := some line, dtag := some (slotDtag i) }).becomeReturned
        i (.poison data) false
  | _ => s

/-- The late answer of a read: RETURNED loses its orphan flag, ORPHANED becomes FREE (R14). -/
def State.lateSlot (s : State) (i : SlotId) : State :=
  match s.slot i with
  | some ⟨src, _, _, .read line _ (.returned r true)⟩ =>
    (s.logLate (some src) line (slotDtag i)).setCourse i (.returned r false)
  | some ⟨src, _, _, .read line _ .orphaned⟩ =>
    (s.logLate (some src) line (slotDtag i)).freeSlot i
  | _ => s

/-- A poisoned hint fetch: HINT_POISON, the attached reads fall back, and the entry becomes FREE (R69). -/
def State.poisonEntry (s : State) (e : EntryId) (line : Line) (src : Source) (attached : List SlotId) : State :=
  ((s.logNotice
      { s.notice .hintPoison with source := some src, line := some line, dtag := some (entryDtag e) }).wakeReads
    attached).setEntry e none

/-- The answer to a hint fetch that has been sent (R67, R68, R69); an entry still queued takes none (R71). -/
def State.answerEntry (s : State) (e : EntryId) (status : FetchStatus) (data : LineData) : State :=
  match s.entry e with
  | some ⟨line, src, .pending ⟨false, attached, _⟩⟩ =>
    match status with
    | .ok => (s.serveAttached attached data).holdEntry e line src data
    | .poison => s.poisonEntry e line src attached
  | some ⟨line, src, .stale ⟨false, attached, _⟩⟩ =>
    match status with
    | .ok => (s.serveAttached attached data).setEntry e none
    | .poison => s.poisonEntry e line src attached
  | _ => s

/-- The late answer of a hint fetch (R71). -/
def State.lateEntry (s : State) (e : EntryId) : State :=
  match s.entry e with
  | some ⟨line, _, .orphaned⟩ => (s.logLate none line (entryDtag e)).setEntry e none
  | _ => s

/-- A FetchData received while UP, matched by its dtag: the table of R111. A matched dtag leaves its set (R109). -/
def State.takeFetchData (s : State) (d : Dtag) (status : FetchStatus) (data : LineData) : State :=
  match dtagOwner d with
  | some (.slot i) =>
    if s.mport.outstanding.contains d then (s.dtagFree d).answerSlot i status data
    else if s.mport.orphaned.contains d then (s.dtagFree d).lateSlot i
    else s.strayAnswer d
  | some (.entry e) =>
    if s.mport.outstanding.contains d then (s.dtagFree d).answerEntry e status data
    else if s.mport.orphaned.contains d then (s.dtagFree d).lateEntry e
    else s.strayAnswer d
  | some (.buffer _) => s.strayAnswer d
  | none => s.strayAnswer d

/-! ## StoreDone -/

/-- The answer to a DRAINING buffer (R39), with FAIL after the contributors' latches, DRAIN_FAIL and DRAIN_FAULTS
(R40). -/
def State.answerBuffer (s : State) (b : BufferId) (status : StoreStatus) : State :=
  match s.buffer b with
  | some ⟨line, _, _, reads, .draining c _ flushes _⟩ =>
    match status with
    | .ok => s.resolveBuffer b line flushes reads
    | .fail =>
      ((((s.setLatches c.contributors).logNotice
        { s.notice .drainFail with line := some line, dtag := some (bufferDtag b) }).bump .drainFaults).resolveBuffer
        b line flushes reads)
  | _ => s

/-- The late answer of an ORPHANED buffer (R42). -/
def State.lateBuffer (s : State) (b : BufferId) : State :=
  match s.buffer b with
  | some ⟨line, _, _, reads, .orphaned _⟩ =>
    (s.logLate none line (bufferDtag b)).freeBuffer b line reads
  | _ => s

/-- A StoreDone received while UP, matched by its dtag: the table of R111. A matched dtag leaves its set (R109). -/
def State.takeStoreDone (s : State) (d : Dtag) (status : StoreStatus) : State :=
  match dtagOwner d with
  | some (.buffer b) =>
    if s.mport.outstanding.contains d then (s.dtagFree d).answerBuffer b status
    else if s.mport.orphaned.contains d then (s.dtagFree d).lateBuffer b
    else s.strayAnswer d
  | some (.slot _) => s.strayAnswer d
  | some (.entry _) => s.strayAnswer d
  | none => s.strayAnswer d

/-! ## Grant -/

/-- A Grant received on the M-port while UP: the count rises, capped at 32 with EXCESS_GRANT_M (R107). -/
def State.grantMem (s : State) (count : Nat) : State :=
  if s.mport.credits + count ≤ Config.creditLimit then { s with mport.credits := s.mport.credits + count }
  else ({ s with mport.credits := Config.creditLimit } : State).logNotice (s.notice .excessGrantM)

/-! ## The commands -/

/-- FETCH_DATA (R105, R111): while DOWN it is not received. The quiet condition is checked after it (R164). -/
def execFetchData (d : Dtag) (status : FetchStatus) (data : LineData) (s : State) : Host.Outcome State Fault Refusal :=
  if s.mport.up then .next (s.takeFetchData d status data).checkQuiet else .next s

/-- STORE_DONE (R105, R111): while DOWN it is not received. The quiet condition is checked after it (R164). -/
def execStoreDone (d : Dtag) (status : StoreStatus) (s : State) : Host.Outcome State Fault Refusal :=
  if s.mport.up then .next (s.takeStoreDone d status).checkQuiet else .next s

/-- M_GRANT (R105, R107): while DOWN it is not received. -/
def execMGrant (count : Nat) (s : State) : Host.Outcome State Fault Refusal :=
  if s.mport.up then .next (s.grantMem count) else .next s

end Sys2Proof.Machine
end

