-- ==== Sys2Proof/Machine/Arrivals.lean ====
section
/-! DEFINITION. The messages the H-port receives: the five requests (R149, R151, R152) and Grant (R130). -/

namespace Sys2Proof.Machine

/-- A request that finds its lane full is discarded: INGRESS_OVERFLOW with the fields the request has (R152). -/
def State.overflow (s : State) (src : Source) (tag : Option Tag) (line : Option Line) : State :=
  s.logNotice { s.notice .ingressOverflow with source := some src, tag := tag, line := line }

/-- The stamp of the next request received: its place in the one order of arrival (R151). -/
def State.nextStamp (s : State) : Nat := s.hport.arrivals + 1

/-- A Read or Hint received while UP (R151, R152); `req` is the request once it has its stamp. -/
def State.receiveRead (s : State) (src : Source) (tag : Option Tag) (line : Line) (req : ReadLaneReq) : State :=
  if Config.readLaneSize ≤ s.hport.readLane.length then s.overflow src tag (some line)
  else
    { s with
      hport.readLane := s.hport.readLane ++ [req]
      hport.readCredits := s.hport.readCredits - 1
      hport.arrivals := s.nextStamp }

/-- A Write or MaskedWrite received while UP (R151, R152). -/
def State.receiveWrite (s : State) (req : WriteReq) : State :=
  if Config.writeLaneSize ≤ s.hport.writeLane.length then s.overflow req.source (some req.tag) (some req.line)
  else
    { s with
      hport.writeLane := s.hport.writeLane ++ [req]
      hport.writeCredits := s.hport.writeCredits - 1
      hport.arrivals := s.nextStamp }

/-- A Flush received while UP (R151, R152). -/
def State.receiveFlush (s : State) (req : FlushReq) : State :=
  if Config.flushLaneSize ≤ s.hport.flushLane.length then s.overflow req.source (some req.tag) none
  else
    { s with
      hport.flushLane := s.hport.flushLane ++ [req]
      hport.flushCredits := s.hport.flushCredits - 1
      hport.arrivals := s.nextStamp }

/-- A Grant received on the H-port while UP: the count rises, capped at 32 with EXCESS_GRANT_H (R130). -/
def State.grantHost (s : State) (count : Nat) : State :=
  if s.resp.credits + count ≤ Config.creditLimit then { s with resp.credits := s.resp.credits + count }
  else ({ s with resp.credits := Config.creditLimit } : State).logNotice (s.notice .excessGrantH)

/-- READ (R149, R151, R152). -/
def execRead (src : Source) (tag : Tag) (line : Line) (s : State) : Host.Outcome State Fault Refusal :=
  if s.hport.up then .next (s.receiveRead src (some tag) line (.read s.nextStamp src tag line)) else .next s

/-- HINT (R149, R151, R152). -/
def execHint (src : Source) (line : Line) (s : State) : Host.Outcome State Fault Refusal :=
  if s.hport.up then .next (s.receiveRead src none line (.hint s.nextStamp src line)) else .next s

/-- WRITE (R149, R151, R152). -/
def execWrite (src : Source) (tag : Tag) (line : Line) (data : LineData) (s : State) :
    Host.Outcome State Fault Refusal :=
  if s.hport.up then .next (s.receiveWrite ⟨s.nextStamp, src, tag, line, false, fullPayload data⟩) else .next s

/-- MASKED_WRITE (R149, R151, R152). -/
def execMaskedWrite (src : Source) (tag : Tag) (line : Line) (payload : Payload) (s : State) :
    Host.Outcome State Fault Refusal :=
  if s.hport.up then .next (s.receiveWrite ⟨s.nextStamp, src, tag, line, true, payload⟩) else .next s

/-- FLUSH (R149, R151, R152). -/
def execFlush (src : Source) (tag : Tag) (s : State) : Host.Outcome State Fault Refusal :=
  if s.hport.up then .next (s.receiveFlush ⟨s.nextStamp, src, tag⟩) else .next s

/-- H_GRANT (R130, R149). -/
def execHGrant (count : Nat) (s : State) : Host.Outcome State Fault Refusal :=
  if s.hport.up then .next (s.grantHost count) else .next s

end Sys2Proof.Machine
end

