-- ==== Sys2Proof/Machine/Departures.lean ====
section
/-! DEFINITION. The part's own sending: departures of the IQ head over the M-port (R103), entries of the RRL head into the
RQ (R126, R127) and departures of the RQ head over the H-port (R129). -/

namespace Sys2Proof.Machine

/-- What every departure of the IQ head does besides its owner's change: the head leaves, one credit is consumed, the
dtag becomes outstanding and the message is sent (R103). -/
def State.depart (s : State) (d : Dtag) (m : MemMsg) : State :=
  ({ s with mport.iq := s.mport.iq.drop 1, mport.credits := s.mport.credits - 1 }.dtagSend d).sendMem m

/-- The message of a buffer's store: Store for a full mask, else StoreMasked (R38, R103). -/
def storeMessage (b : BufferId) (line : Line) (p : Payload) : MemMsg :=
  if isFull p then .store (bufferDtag b) line (payloadLine p) else .storeMasked (bufferDtag b) line p

/-- The IQ head departs: the table of R103 (R11, R38, R66). A head that names no owner ready to be sent does not depart;
R102 rules it out. -/
def State.departHead (s : State) : State :=
  match s.mport.iq with
  | [] => s
  | .slot i :: _ =>
    match s.slot i with
    | some ⟨_, _, _, .read line _ .ready⟩ =>
      ((s.depart (slotDtag i) (.fetch (slotDtag i) line)).setCourse i (.issued s.newDeadline)).bump .fetchesSent
    | _ => s
  | .buffer b :: _ =>
    match s.buffer b with
    | some ⟨line, merged, openedAt, reads, .sealed c cause true flushes⟩ =>
      ((s.depart (bufferDtag b) (storeMessage b line c.payload)).setBuffer b
        (some ⟨line, merged, openedAt, reads, .draining c cause flushes s.newDeadline⟩)).bump .storesSent
    | _ => s
  | .entry e :: _ =>
    match s.entry e with
    | some ⟨line, src, .pending ⟨true, attached, _⟩⟩ =>
      ((s.depart (entryDtag e) (.fetch (entryDtag e) line)).setEntry e
        (some ⟨line, src, .pending ⟨false, attached, s.newDeadline⟩⟩)).bump .fetchesSent
    | some ⟨line, src, .stale ⟨true, attached, _⟩⟩ =>
      ((s.depart (entryDtag e) (.fetch (entryDtag e) line)).setEntry e
        (some ⟨line, src, .stale ⟨false, attached, s.newDeadline⟩⟩)).bump .fetchesSent
    | _ => s

/-- The RQ has a free place (R128). -/
def State.rqHasPlace (s : State) : Bool := s.resp.rq.length < Config.rqPlaces

/-- The RRL head leaves the RRL and its message joins the RQ (R126, R127). -/
def State.enterRq (s : State) (m : Response) : State := { s with resp.rrl := s.resp.rrl.drop 1 }.pushRq m

/-- A read slot at the RRL head enters the RQ as a ReadReturn: its pair leaves the tag map, and the slot becomes FREE, or
ORPHANED if its orphan flag is yes (R15, R126, R131). -/
def State.enterRead (s : State) : State :=
  match s.resp.rrl with
  | .slot i :: _ =>
    match s.slot i with
    | some ⟨src, tag, _, .read _ _ (.returned r orphan)⟩ =>
      let entered := (s.enterRq (.readReturn src tag r)).dropPair src tag
      if orphan then entered.setCourse i .orphaned else entered.freeSlot i
    | _ => s
  | _ => s

/-- The pairs of a bundle's acknowledgements leave the tag map (R127). -/
def State.dropPairs (s : State) (src : Source) (acks : List Ack) : State :=
  acks.foldl (fun s a => s.dropPair src a.tag) s

/-- A bundle record at the RRL head enters the RQ as a Bundle: its pairs leave the tag map, the record becomes EMPTY, and
the head of the source's flush order list is checked (R127, R132, R54). -/
def State.enterBundle (s : State) : State :=
  match s.resp.rrl with
  | .record src :: _ =>
    match s.record src with
    | .sealed acks =>
      ((((s.enterRq (.bundle src acks)).dropPairs src acks).setRecord src .empty).checkFlush src)
    | .empty | .filling _ _ => s
  | _ => s

/-- The RQ head is sent over the H-port and one response credit is consumed (R129). -/
def State.departRq (s : State) : State :=
  match s.resp.rq with
  | [] => s
  | m :: rest =>
    { s with resp.rq := rest, resp.credits := s.resp.credits - 1 }.sendHost (.response m)

/-- DEPARTURE (R103): while the M-port is UP and holds a credit. -/
def execDeparture (s : State) : Host.Outcome State Fault Refusal :=
  if s.mport.up && 0 < s.mport.credits then .next s.departHead.checkQuiet else .next s

/-- RRL_READ_ENTRY (R126): while the RQ has a free place. The quiet condition is checked after it (R164). -/
def execRrlReadEntry (s : State) : Host.Outcome State Fault Refusal :=
  if s.rqHasPlace then .next s.enterRead.checkQuiet else .next s

/-- BUNDLE_ENTRY (R127): while the RQ has a free place. The quiet condition is checked after it (R164). -/
def execBundleEntry (s : State) : Host.Outcome State Fault Refusal :=
  if s.rqHasPlace then .next s.enterBundle.checkQuiet else .next s

/-- RQ_DEPARTURE (R129): while the H-port is UP and holds a response credit. -/
def execRqDeparture (s : State) : Host.Outcome State Fault Refusal :=
  if s.hport.up && 0 < s.resp.credits then .next s.departRq else .next s

end Sys2Proof.Machine
end

