-- ==== Sys2Proof/Machine/Links.lean ====
section
/-! DEFINITION. The cold reset of the part and the link events of both ports (R148, R155, R156, R114 to R116, R170), with
the shared operations H-link down and M-link down, which the link reset commands also use. -/

namespace Sys2Proof.Machine

/-! ## H-link down -/

/-- H-link down at one slot: an unanswered read is detached in place, an answered one becomes FREE or, with its orphan
flag yes, ORPHANED, and a flush becomes FREE; MERGED and ORPHANED slots stay (R21). -/
def State.detachSlot (s : State) (i : SlotId) : State :=
  match s.slot i with
  | some ⟨src, tag, charge, .read line _ course⟩ =>
    match course with
    | .returned _ orphan => if orphan then s.setCourse i .orphaned else s.freeSlot i
    | .orphaned => s
    | .ready | .issued _ | .waitWrite _ | .attached _ =>
      s.setSlot i (some ⟨src, tag, charge, .read line true course⟩)
  | some ⟨_, _, _, .flush _⟩ => s.freeSlot i
  | some ⟨_, _, _, .write _ _ _⟩ => s
  | none => s

/-- The TT's part of H-link down (R21). -/
def State.detachAll (s : State) : State :=
  { slotIds.foldl (fun s i => s.detachSlot i) s with tt.tagMap := [] }

/-- The MB's and the flush logic's parts of H-link down: no buffer waits for a flush, no flush is ordered, every latch is
clear (R47, R60). -/
def State.dropFlushes (s : State) : State :=
  { s with
    mb.buffers := tmap (Option.map (Buffer.mapFlushes fun _ => [])) s.mb.buffers
    fl.order := Vector.replicate 16 []
    fl.latches := Vector.replicate 16 false }

/-- The response path's part of H-link down (R134). -/
def State.dropResponses (s : State) : State :=
  { s with resp.records := Vector.replicate 16 .empty, resp.rrl := [], resp.rq := [], resp.credits := 0 }

/-- The H-port's own part of H-link down: DOWN, lanes and released credits gone, H_LINK_DOWN logged (R156). -/
def State.dropLanes (s : State) : State :=
  ({ s with
      hport.up := false
      hport.readLane := []
      hport.writeLane := []
      hport.flushLane := []
      hport.readCredits := 0
      hport.writeCredits := 0
      hport.flushCredits := 0
      hport.arrivals := 0 } : State).logNotice (s.notice .hLinkDown)

/-- H-link down, one happening (R156), after which the quiet condition is checked (R164). -/
def State.hLinkLost (s : State) : State :=
  s.dropLanes.detachAll.dropFlushes.dropResponses.checkQuiet

/-! ## M-link down -/

/-- M-link down at one slot: ISSUED becomes RETURNED with LINK_DOWN, ORPHANED becomes FREE, and the orphan flag of a
RETURNED slot is cleared (R22). -/
def State.endSlotRequest (s : State) (i : SlotId) : State :=
  match s.slot i with
  | some ⟨_, _, _, .read _ _ (.issued _)⟩ => s.becomeReturned i .linkDown false
  | some ⟨_, _, _, .read _ _ .orphaned⟩ => s.freeSlot i
  | some ⟨_, _, _, .read _ _ (.returned r true)⟩ => s.setCourse i (.returned r false)
  | _ => s

/-- M-link down at one buffer: a DRAINING one fails with its latches and DRAIN_FAULTS (R45), an ORPHANED one becomes FREE
(R46). -/
def State.endDrain (s : State) (b : BufferId) : State :=
  match s.buffer b with
  | some ⟨line, _, _, reads, .draining c _ flushes _⟩ =>
    ((s.setLatches c.contributors).bump .drainFaults).resolveBuffer b line flushes reads
  | some ⟨line, _, _, reads, .orphaned _⟩ => s.freeBuffer b line reads
  | _ => s

/-- A reference is withdrawn from the IQ wherever it stands; the others keep their order (R102). -/
def State.withdraw (s : State) (r : IqRef) : State := { s with mport.iq := s.mport.iq.filter (· ≠ r) }

/-- M-link down at one entry: PENDING and STALE become FREE, with a queued reference withdrawn and the attached reads back
in the IQ; ORPHANED becomes FREE; HELD stays (R78). -/
def State.endHintFetch (s : State) (e : EntryId) : State :=
  match s.entry e with
  | some ⟨_, _, .pending f⟩ => ((s.withdraw (.entry e)).wakeReads f.attached).setEntry e none
  | some ⟨_, _, .stale f⟩ => ((s.withdraw (.entry e)).wakeReads f.attached).setEntry e none
  | some ⟨_, _, .orphaned⟩ => s.setEntry e none
  | _ => s

/-- The M-port's own part of M-link down: DOWN, no credit, no dtag outstanding or orphaned, M_LINK_DOWN logged (R115). -/
def State.dropMPort (s : State) : State :=
  ({ s with mport.up := false, mport.credits := 0, mport.outstanding := [], mport.orphaned := [] } : State).logNotice
    (s.notice .mLinkDown)

/-- M-link down, one happening: the port, then the TT, the MB and the ES in that order (R115), after which the quiet
condition is checked (R164). -/
def State.mLinkLost (s : State) : State :=
  let portDown := s.dropMPort
  let readsEnded := slotIds.foldl (fun s i => s.endSlotRequest i) portDown
  let drainsEnded := bufferIds.foldl (fun s b => s.endDrain b) readsEnded
  (entryIds.foldl (fun s e => s.endHintFetch e) drainsEnded).checkQuiet

/-! ## Entering UP -/

/-- The Releases of the entry to UP: 8 for the read lane, 8 for the write lane, 4 for the flush lane (R155). -/
def upReleases : List HostMsg :=
  List.replicate Config.readLaneSize (.release .read) ++ List.replicate Config.writeLaneSize (.release .write)
    ++ List.replicate Config.flushLaneSize (.release .flush)

/-- The H-port enters UP (R155). -/
def State.hLinkEntersUp (s : State) : State :=
  { s with
    hport.up := true
    hport.readCredits := Config.readLaneSize
    hport.writeCredits := Config.writeLaneSize
    hport.flushCredits := Config.flushLaneSize
    hport.arrivals := 0
    hport.sent := s.hport.sent ++ upReleases
    resp.credits := 0 }

/-- The M-port enters UP (R116). -/
def State.mLinkEntersUp (s : State) : State :=
  { s with mport.up := true, mport.credits := 0, mport.outstanding := [], mport.orphaned := [] }

/-! ## The link commands -/

/-- COLD_RESET (R170): every block as its chapter gives it after a cold reset. The queue of waiting commands is no part of
the part and stays. -/
def execColdReset (s : State) : Host.Outcome State Fault Refusal := .next { State.reset with pending := s.pending }

/-- H_LINK_UP (R148, R155): while DOWN the port enters UP; while UP nothing changes. -/
def execHLinkUp (s : State) : Host.Outcome State Fault Refusal :=
  if s.hport.up then .next s else .next s.hLinkEntersUp

/-- H_LINK_DOWN (R148, R156): while UP the link is lost; while DOWN nothing changes. -/
def execHLinkDown (s : State) : Host.Outcome State Fault Refusal :=
  if s.hport.up then .next s.hLinkLost else .next s

/-- M_LINK_UP (R114, R116): while DOWN the port enters UP; while UP nothing changes. -/
def execMLinkUp (s : State) : Host.Outcome State Fault Refusal :=
  if s.mport.up then .next s else .next s.mLinkEntersUp

/-- M_LINK_DOWN (R114, R115): while UP the link is lost; while DOWN nothing changes. -/
def execMLinkDown (s : State) : Host.Outcome State Fault Refusal :=
  if s.mport.up then .next s.mLinkLost else .next s

end Sys2Proof.Machine
end

