-- ==== Sys2Proof/Machine/Metering.lean ====
section
/-! DEFINITION. The source meter (Chapter 8): samples, the judgement and the moves of a window close, and the configuration
put in force at a window start. The two meter commands of the opcode table, SAMPLE and WINDOW_CLOSE, stand at the end. -/

namespace Sys2Proof.Machine

/-- The judgement of a window (R138). -/
inductive Judged where
  | hot | cool | neutral
  deriving DecidableEq, Repr

/-- Hot above ceiling × W, cool below floor × W, else neutral (R138). -/
def judgeWindow (conf : MeterConf) (accumulator window : Nat) : Judged :=
  if conf.ceiling * window < accumulator then .hot
  else if accumulator < conf.floor * window then .cool
  else .neutral

/-- What a window close does to a source's state and streak, and the notice it logs: the table of R139 with R140. -/
def meterMove (state : MeterState) (streak : Nat) (conf : MeterConf) (j : Judged) :
    MeterState × Nat × Option NoticeKind :=
  match state, j with
  | .off, _ => (.off, streak, none)
  | .calm, .hot => if conf.enter = 1 then (.throttled, 0, some .throttleOn) else (.warm, 1, none)
  | .calm, _ => (.calm, 0, none)
  | .warm, .hot => if conf.enter ≤ streak + 1 then (.throttled, 0, some .throttleOn) else (.warm, streak + 1, none)
  | .warm, _ => (.calm, 0, none)
  | .throttled, .cool => if conf.exit = 1 then (.calm, 0, some .throttleOff) else (.cooling, 1, none)
  | .throttled, _ => (.throttled, 0, none)
  | .cooling, .cool => if conf.exit ≤ streak + 1 then (.calm, 0, some .throttleOff) else (.cooling, streak + 1, none)
  | .cooling, _ => (.throttled, 0, none)

/-- A THROTTLE_ON or THROTTLE_OFF notice of a source (R140). -/
def State.logThrottle (s : State) (src : Source) (k : NoticeKind) : State :=
  s.logNotice { s.notice k with source := some src }

/-- One source is judged at a window close and moves; an OFF source is not judged (R138, R139, R140). -/
def State.judgeSource (s : State) (src : Source) : State :=
  let m := s.meterOf src
  match meterMove m.state m.streak m.conf (judgeWindow m.conf m.accumulator s.mgmt.regs.meterWindow) with
  | (state, streak, none) => s.setMeter src { m with state := state, streak := streak }
  | (state, streak, some k) => (s.setMeter src { m with state := state, streak := streak }).logThrottle src k

/-- A window start for one source: the accumulator is 0 and a pending configuration is put in force, which makes an OFF
source CALM (R138, R141, R143). -/
def Meter.startWindow (m : Meter) : Meter :=
  match m.waiting with
  | none => { m with accumulator := 0 }
  | some conf =>
    if m.state = .off then { conf := conf, waiting := none, state := .calm, streak := 0, accumulator := 0 }
    else { m with conf := conf, waiting := none, accumulator := 0 }

/-- A window start for all sources (R138, R144). -/
def State.startWindow (s : State) : State :=
  { s with meter.meters := tmap Meter.startWindow s.meter.meters, meter.sampleCount := 0 }

/-- A window close: every source is judged, in ascending source number, and then a new window starts (R138, R140). -/
def State.closeWindow (s : State) : State := (sources.foldl (fun s src => s.judgeSource src) s).startWindow

/-- What a sample adds to one meter; an OFF source adds nothing (R137). -/
def Meter.addSample (m : Meter) (holding : Nat) : Meter :=
  if m.state = .off then m else { m with accumulator := m.accumulator + holding }

/-- A sample: the accumulators rise, the timer starts again and the sample count rises; reaching METER_WINDOW it closes
the window in the same happening (R137). -/
def State.takeSample (s : State) : State :=
  let added : State :=
    { s with
      meter.meters := Vector.ofFn fun src => (s.meterOf src).addSample (s.holdingOf src)
      meter.sampleTimer := s.newSampleTimer
      meter.sampleCount := s.meter.sampleCount + 1 }
  if s.mgmt.regs.meterWindow ≤ s.meter.sampleCount + 1 then added.closeWindow else added

/-- The window is restarted for all sources, without judgement (R144). -/
def State.restartWindow (s : State) : State := { s with meter.sampleTimer := s.newSampleTimer }.startWindow

/-- A write of a meter configuration: enabling, it becomes pending (R141); disabled, it is in force at once, the pending
one is discarded, the source becomes OFF, and THROTTLE_OFF is logged for a source that was throttled (R142). -/
def State.configureMeter (s : State) (src : Source) (conf : MeterConf) : State :=
  let m := s.meterOf src
  if conf.isDisabled then
    let off := s.setMeter src { conf := conf, waiting := none, state := .off, streak := 0, accumulator := 0 }
    if m.state.isThrottled then off.logThrottle src .throttleOff else off
  else s.setMeter src { m with waiting := some conf }

/-! ## The meter commands -/

/-- SAMPLE (R137): the sample timer has run out. While it still has time to run no sample is taken, so a write that has
just restarted it delays the next sample to a full new period (R144, R146). -/
def execSample (s : State) : Host.Outcome State Fault Refusal :=
  if s.meter.sampleTimer = 0 then .next s.takeSample else .next s

/-- WINDOW_CLOSE (R138): the sample with which the sample count reaches METER_WINDOW, the sample timer having run out
(R146). At any other count no window closes and nothing happens (notes/assumptions/6.md). -/
def execWindowClose (s : State) : Host.Outcome State Fault Refusal :=
  if s.meter.sampleTimer = 0 ∧ s.mgmt.regs.meterWindow ≤ s.meter.sampleCount + 1 then .next s.takeSample else .next s

end Sys2Proof.Machine
end

