-- ==== Sys2Proof/Machine/Management.lean ====
section
/-! DEFINITION. The management port (Chapter 10): what a read of each register returns (R160, R166, R168), what a write to
each register does (R160, R161), the commands of R162 with the quiesce controller (R163), and the table's rows for them. -/

namespace Sys2Proof.Machine

/-! ## Reading registers -/

/-- A value placed at bit `low` of a register. -/
def bitsAt (low n : Nat) : BitVec 32 := BitVec.ofNat 32 (n * 2 ^ low)

/-- A flag placed at bit `low` of a register. -/
def flagAt (low : Nat) (b : Bool) : BitVec 32 := if b then bitsAt low 1 else 0

/-- The code of the quiesce state (R160). -/
def quiesceCode : QuiesceState → Nat
  | .run => 0 | .draining => 1 | .quiet => 2

/-- The code of a meter state (R160). -/
def meterCode : MeterState → Nat
  | .off => 0 | .calm => 1 | .warm => 2 | .throttled => 3 | .cooling => 4

/-- The code of a reason (R160). -/
def reasonCode : Reason → Nat
  | .outOfRange => 1 | .emptyMask => 2 | .duplicateTag => 3

/-- A meter configuration as METER_CONF shows it: its six fields and the reserved bits between them, highest first
(R160). -/
def meterConfWord (c : MeterConf) : BitVec 32 :=
  BitVec.ofBool c.enabled ++ (0#1 ++ (BitVec.ofNat 6 c.ceiling ++ (0#2 ++ (BitVec.ofNat 6 c.floor
    ++ (BitVec.ofNat 4 c.enter ++ (BitVec.ofNat 4 c.exit ++ (0#2 ++ BitVec.ofNat 6 c.limit)))))))

/-- PORT_STATUS (R160). -/
def State.portStatus (s : State) : BitVec 32 :=
  flagAt 0 s.hport.up ||| flagAt 1 s.mport.up ||| bitsAt 4 (quiesceCode s.mgmt.quiesce) ||| flagAt 8 s.mgmt.quietStatus

/-- The free count of a pool (section 1.2). -/
def State.freeCount (s : State) (p : Pool) : Nat := poolSize p - s.tt.charges.of p

/-- POOL_STATUS (R160, R5). -/
def State.poolStatus (s : State) : BitVec 32 :=
  bitsAt 0 (s.freeCount .common) ||| bitsAt 8 (s.freeCount .read) ||| bitsAt 12 (s.freeCount .write)
    ||| bitsAt 16 (s.freeCount .flush)

/-- The packed meter status of eight sources, the first in bits 2 to 0 and each next four bits higher (R160). -/
def State.meterStatus (s : State) (srcs : List Source) : BitVec 32 :=
  srcs.foldl (fun acc src => acc ||| bitsAt (4 * (src.val % 8)) (meterCode (s.meterOf src).state)) 0

/-- NOTICE_POP as a notice shows in it; an absent field reads 0 with its presence flag 0 (R160, R166). -/
def noticeWord (n : Notice) : BitVec 32 :=
  bitsAt 0 (kindCode n.kind)
    ||| flagAt 5 n.source.isSome ||| flagAt 6 n.tag.isSome ||| flagAt 7 n.line.isSome ||| flagAt 8 n.dtag.isSome
    ||| flagAt 9 n.reason.isSome
    ||| bitsAt 10 ((n.source.map fun x => x.val).getD 0)
    ||| bitsAt 14 ((n.tag.map fun x => x.toNat).getD 0)
    ||| bitsAt 22 ((n.dtag.map fun x => x.toNat).getD 0)
    ||| bitsAt 30 ((n.reason.map reasonCode).getD 0)

/-- The line of the oldest notice, 0 where it has none (R166). -/
def State.noticeLine (s : State) : BitVec 40 := (s.mgmt.notices.head?.bind fun n => n.line).getD 0

/-- A register of the table's low rows: configuration, status and notice registers (R160, R166). -/
def State.readLow (s : State) : Nat → BitVec 32
  | 0 => s.mgmt.regs.topLine.extractLsb' 0 32
  | 1 => (s.mgmt.regs.topLine.extractLsb' 32 9).setWidth 32
  | 2 => flagAt 0 s.mgmt.regs.mergeEnable
  | 3 => bitsAt 0 s.mgmt.regs.mergeAge
  | 4 => flagAt 0 s.mgmt.regs.hintEnable
  | 5 => bitsAt 0 s.mgmt.regs.hintLife
  | 6 => bitsAt 0 s.mgmt.regs.bundleHold
  | 7 => bitsAt 0 s.mgmt.regs.deadline
  | 8 => bitsAt 0 s.mgmt.regs.meterSample
  | 9 => bitsAt 0 s.mgmt.regs.meterWindow
  | 10 => s.mgmt.regs.irqEnable
  | 32 => s.portStatus
  | 33 => s.poolStatus
  | 34 => bitsAt 0 s.mport.credits ||| bitsAt 8 s.resp.credits
  | 35 => bitsAt 0 s.mgmt.notices.length ||| flagAt 8 s.mgmt.lost
  | 36 => s.meterStatus [0, 1, 2, 3, 4, 5, 6, 7]
  | 37 => s.meterStatus [8, 9, 10, 11, 12, 13, 14, 15]
  | 40 => (s.mgmt.notices.head?.map fun n => n.time).getD 0
  | 41 => s.noticeLine.extractLsb' 0 32
  | 42 => (s.noticeLine.extractLsb' 32 8).setWidth 32
  | 43 => (s.mgmt.notices.head?.map noticeWord).getD 0
  | _ => 0

/-- The 32 bits a read of a register returns; the removal a read of NOTICE_POP also makes is the command's (R159, R160,
R166, R168). A write-only register and a number outside the table read 0. -/
def State.readRegister (s : State) (number : BitVec 8) : BitVec 32 :=
  if h : number.toNat - 16 < 16 ∧ 16 ≤ number.toNat then meterConfWord (s.meterOf ⟨number.toNat - 16, h.1⟩).conf
  else if h : number.toNat - 64 < 22 ∧ 64 ≤ number.toNat then tget s.mgmt.counters ⟨number.toNat - 64, h.1⟩
  else s.readLow number.toNat

/-! ## Writing registers -/

/-- TOP_LINE_LO: TOP_LINE from the staged high part and the written low part is put in force (R160). -/
def State.writeTopLineLo (s : State) (data : RegData) : State :=
  { s with mgmt.regs.topLine := topLineOf s.mgmt.regs.topLineStaged data }

/-- TOP_LINE_HI: the field is staged and nothing in force changes (R160). -/
def State.writeTopLineHi (s : State) (data : RegData) : State :=
  { s with mgmt.regs.topLineStaged := data.extractLsb' 0 9 }

/-- MERGE_ENABLE: turned off, every OPEN buffer is sealed with DISABLED; turned on, no buffer changes (R36, R161). -/
def State.writeMergeEnable (s : State) (data : RegData) : State :=
  if onField data then { s with mgmt.regs.mergeEnable := true }
  else if s.mgmt.regs.mergeEnable then { s with mgmt.regs.mergeEnable := false }.sealOpen .disabled
  else s

/-- HINT_ENABLE: turned off, every HELD entry becomes FREE; turned on, no entry changes (R76, R161). The quiet condition
is checked after it (R164). -/
def State.writeHintEnable (s : State) (data : RegData) : State :=
  if onField data then { s with mgmt.regs.hintEnable := true }
  else if s.mgmt.regs.hintEnable then { s with mgmt.regs.hintEnable := false }.freeHeld.checkQuiet
  else s

/-- METER_SAMPLE: the clamped value is put in force and the window restarted (R144). -/
def State.writeMeterSample (s : State) (data : RegData) : State :=
  { s with mgmt.regs.meterSample := clamp 1 255 (fieldOf data 0 8) }.restartWindow

/-- METER_WINDOW: the clamped value is put in force and the window restarted (R144). -/
def State.writeMeterWindow (s : State) (data : RegData) : State :=
  { s with mgmt.regs.meterWindow := clamp 16 4096 (fieldOf data 0 13) }.restartWindow

/-- IRQ_ENABLE: the enables are set and the IRQ line is re-evaluated (R169). -/
def State.writeIrqEnable (s : State) (data : RegData) : State :=
  { s with mgmt.regs.irqEnable := data &&& irqMask }.refreshIrq

/-! ## Commands (R162, R163) -/

/-- QUIESCE: from RUN the controller enters DRAINING, OPEN buffers are sealed, HELD entries freed and FILLING records
sealed, and the quiet condition is checked (R163). -/
def State.commandQuiesce (s : State) : State :=
  if s.mgmt.quiesce = .run then
    (({ s with mgmt.quiesce := .draining }.sealOpen .quiesce).freeHeld.sealFilling).checkQuiet
  else s

/-- RESUME: from DRAINING or QUIET the controller enters RUN and the quiet status is cleared (R163). -/
def State.commandResume (s : State) : State :=
  if s.mgmt.quiesce = .run then s else { s with mgmt.quiesce := .run, mgmt.quietStatus := false }.refreshIrq

/-- H_LINK_RESET: from UP the link is lost and the physical layer is made to restart it; while DOWN nothing changes
(R148). -/
def State.commandHLinkReset (s : State) : State :=
  if s.hport.up then { s.hLinkLost with hport.restarts := s.hport.restarts + 1 } else s

/-- M_LINK_RESET: from UP the link is lost and the physical layer is made to restart it; while DOWN nothing changes
(R114). -/
def State.commandMLinkReset (s : State) : State :=
  if s.mport.up then { s.mLinkLost with mport.restarts := s.mport.restarts + 1 } else s

/-- CLEAR_COUNTERS: all 22 counters become 0 (R162, R168). -/
def State.commandClearCounters (s : State) : State := { s with mgmt.counters := Vector.replicate 22 0 }

/-- CLEAR_LOST: the LOST flag is cleared (R162, R165). -/
def State.commandClearLost (s : State) : State := { s with mgmt.lost := false }

/-- A write to COMMAND carries out the command of its code; any other code is ignored (R162). -/
def State.writeCommand (s : State) : Nat → State
  | 1 => s.commandClearCounters
  | 2 => s.commandClearLost
  | 3 => s.commandQuiesce
  | 4 => s.commandResume
  | 5 => s.commandHLinkReset
  | 6 => s.commandMLinkReset
  | _ => s

/-- A write to one of registers 0 to 11; a read-only or unlisted register ignores it (R160, R161). -/
def State.writeLow (s : State) (data : RegData) : Nat → State
  | 0 => s.writeTopLineLo data
  | 1 => s.writeTopLineHi data
  | 2 => s.writeMergeEnable data
  | 3 => { s with mgmt.regs.mergeAge := clamp 1 4095 (fieldOf data 0 12) }
  | 4 => s.writeHintEnable data
  | 5 => { s with mgmt.regs.hintLife := clamp 1 255 (fieldOf data 0 8) }
  | 6 => { s with mgmt.regs.bundleHold := clamp 0 255 (fieldOf data 0 8) }
  | 7 => { s with mgmt.regs.deadline := clamp 0 65535 (fieldOf data 0 16) }
  | 8 => s.writeMeterSample data
  | 9 => s.writeMeterWindow data
  | 10 => s.writeIrqEnable data
  | 11 => s.writeCommand (fieldOf data 0 8)
  | _ => s

/-- A write transaction to any register number: the register window of R160 and R161. -/
def State.writeRegister (s : State) (number : BitVec 8) (data : RegData) : State :=
  if h : number.toNat - 16 < 16 ∧ 16 ≤ number.toNat then s.configureMeter ⟨number.toNat - 16, h.1⟩ (meterConfOf data)
  else s.writeLow data number.toNat

/-! ## The management commands of the table -/

/-- NOTICE_POP (R166): the value of register 43 is shifted out and the oldest record leaves the log. -/
def execNoticePop (s : State) : Host.Outcome State Fault Refusal :=
  .next { s with mgmt.readData := s.readRegister 43 }.popNotice

/-- CLEAR_COUNTERS (R162). -/
def execClearCounters (s : State) : Host.Outcome State Fault Refusal := .next s.commandClearCounters
/-- CLEAR_LOST (R162). -/
def execClearLost (s : State) : Host.Outcome State Fault Refusal := .next s.commandClearLost
/-- QUIESCE (R163). -/
def execQuiesce (s : State) : Host.Outcome State Fault Refusal := .next s.commandQuiesce
/-- RESUME (R163). -/
def execResume (s : State) : Host.Outcome State Fault Refusal := .next s.commandResume
/-- H_LINK_RESET (R148). -/
def execHLinkReset (s : State) : Host.Outcome State Fault Refusal := .next s.commandHLinkReset
/-- M_LINK_RESET (R114). -/
def execMLinkReset (s : State) : Host.Outcome State Fault Refusal := .next s.commandMLinkReset
/-- TOP_LINE_HI (R160). -/
def execTopLineHi (data : RegData) (s : State) : Host.Outcome State Fault Refusal := .next (s.writeTopLineHi data)
/-- TOP_LINE_LO (R160). -/
def execTopLineLo (data : RegData) (s : State) : Host.Outcome State Fault Refusal := .next (s.writeTopLineLo data)
/-- MERGE_ENABLE (R36). -/
def execMergeEnable (data : RegData) (s : State) : Host.Outcome State Fault Refusal := .next (s.writeMergeEnable data)
/-- HINT_ENABLE (R76). -/
def execHintEnable (data : RegData) (s : State) : Host.Outcome State Fault Refusal := .next (s.writeHintEnable data)
/-- METER_SAMPLE (R144). -/
def execMeterSample (data : RegData) (s : State) : Host.Outcome State Fault Refusal := .next (s.writeMeterSample data)
/-- METER_WINDOW (R144). -/
def execMeterWindow (data : RegData) (s : State) : Host.Outcome State Fault Refusal := .next (s.writeMeterWindow data)
/-- METER_CONF (R141, R142). -/
def execMeterConf (src : Source) (data : RegData) (s : State) : Host.Outcome State Fault Refusal :=
  .next (s.configureMeter src (meterConfOf data))
/-- IRQ_ENABLE (R169). -/
def execIrqEnable (data : RegData) (s : State) : Host.Outcome State Fault Refusal := .next (s.writeIrqEnable data)
/-- REGISTER_WRITE (R160, R161). -/
def execRegisterWrite (number : BitVec 8) (data : RegData) (s : State) : Host.Outcome State Fault Refusal :=
  .next (s.writeRegister number data)

end Sys2Proof.Machine
end

