-- ==== Sys2Proof/Machine/Timers.lean ====
section
/-! DEFINITION. The running out of the part's timers as commands (R13, R41, R70, R32, R75, R122), and the passing of time
that an empty queue stands for (notes/assumptions/3.md). A timer that is not running does not run out. -/

namespace Sys2Proof.Machine

/-! ## Deadlines (R110) -/

/-- The deadline of an ISSUED read runs out: the dtag is orphaned, READ_TIMEOUT is logged and counted, and the slot
becomes RETURNED with TIMEOUT and orphan yes (R13). -/
def State.timeoutSlot (s : State) (i : SlotId) : State :=
  match s.slot i with
  | some ⟨src, tag, _, .read line _ (.issued (some _))⟩ =>
    (((s.dtagOrphan (slotDtag i)).logNotice
      { s.notice .readTimeout with
        source := some src, tag := some tag, line := some line, dtag := some (slotDtag i) }).bump
      .readTimeouts).becomeReturned i .timeout true
  | _ => s

/-- The drain deadline of a DRAINING buffer runs out: it becomes ORPHANED, in the order of R41. -/
def State.timeoutBuffer (s : State) (b : BufferId) : State :=
  match s.buffer b with
  | some ⟨line, _, openedAt, reads, .draining c cause flushes (some _)⟩ =>
    (((((((s.dtagOrphan (bufferDtag b)).setLatches c.contributors).logNotice
      { s.notice .drainTimeout with line := some line, dtag := some (bufferDtag b) }).bump .drainFaults).freeMerged
        b).countDownAll flushes).setBuffer b (some ⟨line, 0, openedAt, reads, .orphaned cause⟩))
  | _ => s

/-- A hint fetch is not answered in time: the entry becomes ORPHANED and its attached reads fall back (R70). -/
def State.orphanEntry (s : State) (e : EntryId) (line : Line) (src : Source) (attached : List SlotId) : State :=
  (((s.dtagOrphan (entryDtag e)).logNotice
    { s.notice .hintTimeout with source := some src, line := some line, dtag := some (entryDtag e) }).wakeReads
    attached).setEntry e (some ⟨line, src, .orphaned⟩)

/-- The fetch deadline of a PENDING or STALE entry runs out (R70); none runs while the entry is queued (R66). -/
def State.timeoutEntry (s : State) (e : EntryId) : State :=
  match s.entry e with
  | some ⟨line, src, .pending ⟨false, attached, some _⟩⟩ => s.orphanEntry e line src attached
  | some ⟨line, src, .stale ⟨false, attached, some _⟩⟩ => s.orphanEntry e line src attached
  | _ => s

/-- The life timer of a HELD entry runs out: the entry becomes FREE (R75). -/
def State.expireEntry (s : State) (e : EntryId) : State :=
  if (s.entry e).any Entry.isHeld then s.setEntry e none else s

/-! ## The timer commands -/

/-- READ_DEADLINE (R13). -/
def execReadDeadline (i : SlotId) (s : State) : Host.Outcome State Fault Refusal := .next (s.timeoutSlot i)

/-- DRAIN_DEADLINE (R41). -/
def execDrainDeadline (b : BufferId) (s : State) : Host.Outcome State Fault Refusal := .next (s.timeoutBuffer b)

/-- FETCH_DEADLINE (R70). -/
def execFetchDeadline (e : EntryId) (s : State) : Host.Outcome State Fault Refusal := .next (s.timeoutEntry e)

/-- AGE_TIMER (R32): an OPEN buffer is sealed with AGE. -/
def execAgeTimer (b : BufferId) (s : State) : Host.Outcome State Fault Refusal := .next (s.sealBuffer b .age)

/-- LIFE_TIMER (R75). The quiet condition is checked after it (R164). -/
def execLifeTimer (e : EntryId) (s : State) : Host.Outcome State Fault Refusal := .next (s.expireEntry e).checkQuiet

/-- HOLD_TIMER (R122): a FILLING record is sealed. -/
def execHoldTimer (src : Source) (s : State) : Host.Outcome State Fault Refusal := .next (s.sealRecord src)

/-! ## The passing of time -/

/-- A slot's deadline, if one runs, comes 10 ns nearer. -/
def Slot.tick (sl : Slot) : Slot :=
  match sl with
  | ⟨src, tag, charge, .read line detached (.issued (some n))⟩ =>
    ⟨src, tag, charge, .read line detached (.issued (some (n - 1)))⟩
  | _ => sl

/-- A buffer's age timer or drain deadline, if one runs, comes 10 ns nearer. -/
def Buffer.tick (b : Buffer) : Buffer :=
  match b.phase with
  | .opened c age => { b with phase := .opened c (age - 1) }
  | .draining c cause flushes (some n) => { b with phase := .draining c cause flushes (some (n - 1)) }
  | .draining _ _ _ none | .sealed _ _ _ _ | .orphaned _ => b

/-- A hint fetch's deadline, if one runs, comes 10 ns nearer. -/
def HintFetch.tick (f : HintFetch) : HintFetch := { f with deadline := f.deadline.map (· - 1) }

/-- An entry's fetch deadline or life timer, if one runs, comes 10 ns nearer. -/
def Entry.tick (e : Entry) : Entry :=
  match e.phase with
  | .pending f => { e with phase := .pending f.tick }
  | .stale f => { e with phase := .stale f.tick }
  | .held data life => { e with phase := .held data (life - 1) }
  | .orphaned => e

/-- A record's hold timer, if it runs, comes 10 ns nearer. -/
def BundleRecord.tick (r : BundleRecord) : BundleRecord :=
  match r with
  | .filling acks hold => .filling acks (hold - 1)
  | .empty | .sealed _ => r

/-- The time counter counts a microsecond after each 100 units of 10 ns and wraps (R167). -/
def Management.tick (m : Management) : Management :=
  if Config.ticksPerMicrosecond ≤ m.subTime + 1 then { m with time := m.time + 1, subTime := 0 }
  else { m with subTime := m.subTime + 1 }

/-- 10 ns pass: the time counter counts, and every running timer comes 10 ns nearer to running out. No timer runs out in
it: the running out is a command of its own (notes/assumptions/3.md, notes/assumptions/4.md). -/
def State.tick (s : State) : State :=
  { s with
    tt.slots := tmap (Option.map Slot.tick) s.tt.slots
    mb.buffers := tmap (Option.map Buffer.tick) s.mb.buffers
    es.entries := tmap (Option.map Entry.tick) s.es.entries
    resp.records := tmap BundleRecord.tick s.resp.records
    meter.sampleTimer := s.meter.sampleTimer - 1
    mgmt := s.mgmt.tick }

end Sys2Proof.Machine
end

