-- ==== Sys2Proof/Machine/Dispatch.lean ====
section
/-! DEFINITION. The one match from a command to its meaning. -/

namespace Sys2Proof.Machine

/-- The effect of a command on everything but the queue of waiting commands. -/
def exec (i : Instr) (s : State) : Host.Outcome State Fault Refusal :=
  match i with
  | .coldReset => Sys2Proof.Machine.execColdReset s
  | .hLinkUp => Sys2Proof.Machine.execHLinkUp s
  | .hLinkDown => Sys2Proof.Machine.execHLinkDown s
  | .mLinkUp => Sys2Proof.Machine.execMLinkUp s
  | .mLinkDown => Sys2Proof.Machine.execMLinkDown s
  | .read source tag line => Sys2Proof.Machine.execRead source tag line s
  | .hint source line => Sys2Proof.Machine.execHint source line s
  | .write source tag line data => Sys2Proof.Machine.execWrite source tag line data s
  | .maskedWrite source tag line payload => Sys2Proof.Machine.execMaskedWrite source tag line payload s
  | .flush source tag => Sys2Proof.Machine.execFlush source tag s
  | .hGrant count => Sys2Proof.Machine.execHGrant count s
  | .fetchData dtag status data => Sys2Proof.Machine.execFetchData dtag status data s
  | .storeDone dtag status => Sys2Proof.Machine.execStoreDone dtag status s
  | .mGrant count => Sys2Proof.Machine.execMGrant count s
  | .noticePop => Sys2Proof.Machine.execNoticePop s
  | .clearCounters => Sys2Proof.Machine.execClearCounters s
  | .clearLost => Sys2Proof.Machine.execClearLost s
  | .quiesce => Sys2Proof.Machine.execQuiesce s
  | .resume => Sys2Proof.Machine.execResume s
  | .hLinkReset => Sys2Proof.Machine.execHLinkReset s
  | .mLinkReset => Sys2Proof.Machine.execMLinkReset s
  | .topLineHi data => Sys2Proof.Machine.execTopLineHi data s
  | .topLineLo data => Sys2Proof.Machine.execTopLineLo data s
  | .mergeEnable data => Sys2Proof.Machine.execMergeEnable data s
  | .hintEnable data => Sys2Proof.Machine.execHintEnable data s
  | .meterSample data => Sys2Proof.Machine.execMeterSample data s
  | .meterWindow data => Sys2Proof.Machine.execMeterWindow data s
  | .meterConf source data => Sys2Proof.Machine.execMeterConf source data s
  | .irqEnable data => Sys2Proof.Machine.execIrqEnable data s
  | .registerWrite number data => Sys2Proof.Machine.execRegisterWrite number data s
  | .readDeadline slot => Sys2Proof.Machine.execReadDeadline slot s
  | .drainDeadline buffer => Sys2Proof.Machine.execDrainDeadline buffer s
  | .fetchDeadline entry => Sys2Proof.Machine.execFetchDeadline entry s
  | .ageTimer buffer => Sys2Proof.Machine.execAgeTimer buffer s
  | .lifeTimer entry => Sys2Proof.Machine.execLifeTimer entry s
  | .holdTimer source => Sys2Proof.Machine.execHoldTimer source s
  | .sample => Sys2Proof.Machine.execSample s
  | .windowClose => Sys2Proof.Machine.execWindowClose s
  | .decision => Sys2Proof.Machine.execDecision s
  | .departure => Sys2Proof.Machine.execDeparture s
  | .rrlReadEntry => Sys2Proof.Machine.execRrlReadEntry s
  | .bundleEntry => Sys2Proof.Machine.execBundleEntry s
  | .rqDeparture => Sys2Proof.Machine.execRqDeparture s

end Sys2Proof.Machine
end

