-- ==== Sys2Proof/Safety.lean ====
section
/-! DEFINITION. What the spec says always holds of the part, as predicates on a state, one for each law; which flushes a
resolution and M-link down complete, and what they and a row of seals put in the queues; how a happening ends; and when a
timer command is due. -/

namespace Sys2Proof.Machine

/-! ## The transaction table -/

/-- How many slots have a property. -/
def State.countSlots (s : State) (p : Slot → Bool) : Nat := slotIds.countP fun i => (s.slot i).any p

/-- R4: the charge of every pool is the number of slots charged to it, and never exceeds the pool's size. -/
abbrev State.ChargesLaw (s : State) : Prop :=
  ∀ p ∈ [Pool.common, Pool.read, Pool.write, Pool.flush],
    s.tt.charges.of p = s.countSlots (fun sl => sl.pool == p) ∧ s.tt.charges.of p ≤ poolSize p

/-- R9: the holding count of every source is the number of its slots that are not FREE. -/
abbrev State.HoldingLaw (s : State) : Prop :=
  ∀ src : Source, s.holdingOf src = s.countSlots fun sl => sl.source == src

/-! ## The merge buffer -/

/-- Whether a buffer is ORPHANED. -/
def Buffer.isOrphaned (b : Buffer) : Bool :=
  match b.phase with
  | .orphaned _ => true
  | .opened _ _ | .sealed _ _ _ _ | .draining _ _ _ _ => false

/-- R18: for every buffer, merged is the number of slots MERGED into it, none for a FREE or an ORPHANED one, at most 8, and
below 8 while it is OPEN. -/
abbrev State.MergedLaw (s : State) : Prop :=
  ∀ b : BufferId,
    (s.buffer b = none → s.countSlots (fun sl => mergedInto b (some sl)) = 0)
      ∧ ∀ x ∈ s.buffer b,
        x.merged = s.countSlots (fun sl => mergedInto b (some sl)) ∧ x.merged ≤ Config.mergeLimit
          ∧ (x.isOpen = true → x.merged < Config.mergeLimit) ∧ (x.isOrphaned = true → x.merged = 0)

/-- R25, R37: two buffers of one line are never both OPEN, and never both queued, DRAINING or ORPHANED. -/
abbrev State.LineLaw (s : State) : Prop :=
  ∀ b b' : BufferId, ∀ x ∈ s.buffer b, ∀ x' ∈ s.buffer b',
    b ≠ b' → x.line = x'.line →
      ¬(x.isOpen = true ∧ x'.isOpen = true) ∧ ¬(x.blocksLine = true ∧ x'.blocksLine = true)

/-- R24: the age order holds each buffer that is not FREE once, and no FREE one. -/
abbrev State.AgeLaw (s : State) : Prop :=
  s.mb.ageOrder.Nodup ∧ ∀ b : BufferId, b ∈ s.mb.ageOrder ↔ (s.buffer b).isSome = true

/-- A SEALED buffer as it stands once its reference has entered the IQ (R37); any other buffer is as it is. -/
def Buffer.enqueued (b : Buffer) : Buffer :=
  match b.phase with
  | .sealed c cause _ w => { b with phase := .sealed c cause true w }
  | .opened _ _ | .draining _ _ _ _ | .orphaned _ => b

/-- An OPEN buffer as its seal leaves it, queued or not (R31, R37); any other buffer is as it is. -/
def Buffer.sealedWith (cause : SealCause) (queued : Bool) (b : Buffer) : Buffer :=
  match b.phase with
  | .opened c _ => { b with phase := .sealed c cause queued [] }
  | .sealed _ _ _ _ | .draining _ _ _ _ | .orphaned _ => b

/-- How many buffers have a property. -/
def State.countBuffers (s : State) (p : Buffer → Bool) : Nat := bufferIds.countP fun b => (s.buffer b).any p

/-- The references that the seals of the OPEN buffers with a property put at the IQ tail: those whose line is clear, in
ascending buffer number (R31, R35, R36, R37). -/
def State.sealsQueued (s : State) (p : Buffer → Bool) : List IqRef :=
  (bufferIds.filter fun b => (s.buffer b).any fun x => x.isOpen && p x && s.lineClear b x.line).map IqRef.buffer

/-! ## The early-read store -/

/-- Whether an entry is HELD or PENDING. -/
def Entry.serves (e : Entry) : Bool :=
  match e.phase with
  | .held _ _ | .pending _ => true
  | .stale _ | .orphaned => false

/-- R63, R73: two entries are never for one line, and no entry is HELD or PENDING for a line that has a buffer. -/
abbrev State.EntryLaw (s : State) : Prop :=
  (∀ e e' : EntryId, ∀ x ∈ s.entry e, ∀ x' ∈ s.entry e', x.line = x'.line → e = e')
    ∧ ∀ e : EntryId, ∀ x ∈ s.entry e, x.serves = true → s.lineHasBuffer x.line = false

/-! ## Admission -/

/-- A source over its limit: THROTTLED or COOLING, and holding at least its limit in force (R89). -/
abbrev State.overLimit (s : State) (src : Source) : Prop :=
  ((s.meterOf src).state = .throttled ∨ (s.meterOf src).state = .cooling)
    ∧ (s.meterOf src).conf.limit ≤ s.holdingOf src

/-- The judgement `j` is what the want of a slot alone decides, for a head whose reserve has `size` slots with `used` of
them charged: admitted to the lowest FREE slot, charged to the common pool while that has room and else to the reserve, or
waiting where neither has room or no slot is FREE (R1, R3, R91, R92, R95). -/
def State.slotJudged (s : State) (used size : Nat) (j : Judgement) : Prop :=
  ((∀ i, s.slot i ≠ none) → j = .waits)
    ∧ (38 ≤ s.tt.charges.common → size ≤ used → j = .waits)
    ∧ ∀ i, s.slot i = none → (∀ i', i' < i → s.slot i' ≠ none) →
      (s.tt.charges.common < 38 → j = .serves (.admits i .common))
      ∧ (38 ≤ s.tt.charges.common → used < size → j = .serves (.admits i .reserve))

/-! ## Waiting lists -/

/-- Whether slot `i` is a read that waits on buffer `b`. -/
def State.isWaitingOn (s : State) (b : BufferId) (i : SlotId) : Bool :=
  match s.slot i with
  | some ⟨_, _, _, .read _ _ (.waitWrite b')⟩ => b' == b
  | _ => false

/-- Whether slot `i` is a read attached to entry `e`. -/
def State.isAttached (s : State) (e : EntryId) (i : SlotId) : Bool :=
  match s.slot i with
  | some ⟨_, _, _, .read _ _ (.attached e')⟩ => e' == e
  | _ => false

/-- Whether slot `i` is a detached read. -/
def State.isDetached (s : State) (i : SlotId) : Bool :=
  match s.slot i with
  | some ⟨_, _, _, .read _ true _⟩ => true
  | _ => false

/-- The waiting_reads list of a buffer, empty for a FREE one. -/
def State.waitingOn (s : State) (b : BufferId) : List SlotId := ((s.buffer b).map Buffer.waitingReads).getD []

/-- The attached list of an entry, empty where it has none. -/
def State.attachedTo (s : State) (e : EntryId) : List SlotId :=
  match s.entry e with
  | some ⟨_, _, .pending f⟩ => f.attached
  | some ⟨_, _, .stale f⟩ => f.attached
  | _ => []

/-- R16, R17, R43: a waiting_reads list and an attached list hold each slot that waits there once, and no other. -/
abbrev State.WaitLaw (s : State) : Prop :=
  (∀ b : BufferId, (s.waitingOn b).Nodup ∧ ∀ i : SlotId, i ∈ s.waitingOn b ↔ s.isWaitingOn b i = true)
    ∧ ∀ e : EntryId, (s.attachedTo e).Nodup ∧ ∀ i : SlotId, i ∈ s.attachedTo e ↔ s.isAttached e i = true

/-! ## The IQ and the dtags -/

/-- Whether a reference's owner waits in the IQ: a READY slot, a queued buffer, a queued entry (R101). -/
def State.waitsInIq (s : State) : IqRef → Bool
  | .slot i =>
    match s.slot i with
    | some ⟨_, _, _, .read _ _ .ready⟩ => true
    | _ => false
  | .buffer b =>
    match s.buffer b with
    | some ⟨_, _, _, _, .sealed _ _ true _⟩ => true
    | _ => false
  | .entry e =>
    match s.entry e with
    | some ⟨_, _, .pending ⟨true, _, _⟩⟩ => true
    | some ⟨_, _, .stale ⟨true, _, _⟩⟩ => true
    | _ => false

/-- R101, R102: the IQ holds every owner that waits in it once, and nothing else. -/
abbrev State.IqLaw (s : State) : Prop := s.mport.iq.Nodup ∧ ∀ r : IqRef, r ∈ s.mport.iq ↔ s.waitsInIq r = true

/-- Whether the request of a dtag has been sent and not yet answered or timed out, as its owner shows it (R109). -/
def State.ownerAwaits (s : State) (d : Dtag) : Bool :=
  match dtagOwner d with
  | some (.slot i) =>
    match s.slot i with
    | some ⟨_, _, _, .read _ _ (.issued _)⟩ => true
    | _ => false
  | some (.buffer b) =>
    match s.buffer b with
    | some ⟨_, _, _, _, .draining _ _ _ _⟩ => true
    | _ => false
  | some (.entry e) =>
    match s.entry e with
    | some ⟨_, _, .pending ⟨false, _, _⟩⟩ => true
    | some ⟨_, _, .stale ⟨false, _, _⟩⟩ => true
    | _ => false
  | none => false

/-- Whether the late answer of a dtag is still due, as its owner shows it (R109). -/
def State.ownerOrphaned (s : State) (d : Dtag) : Bool :=
  match dtagOwner d with
  | some (.slot i) =>
    match s.slot i with
    | some ⟨_, _, _, .read _ _ (.returned _ true)⟩ => true
    | some ⟨_, _, _, .read _ _ .orphaned⟩ => true
    | _ => false
  | some (.buffer b) =>
    match s.buffer b with
    | some ⟨_, _, _, _, .orphaned _⟩ => true
    | _ => false
  | some (.entry e) =>
    match s.entry e with
    | some ⟨_, _, .orphaned⟩ => true
    | _ => false
  | none => false

/-- R109, R115: the outstanding and the orphaned set hold each dtag at most once, hold exactly the dtags whose owners say
so, and are empty while the M-port is DOWN. -/
abbrev State.DtagLaw (s : State) : Prop :=
  s.mport.outstanding.Nodup ∧ s.mport.orphaned.Nodup
    ∧ (s.mport.up = false → s.mport.outstanding = [] ∧ s.mport.orphaned = [])
    ∧ ∀ d : Dtag,
      (d ∈ s.mport.outstanding ↔ s.ownerAwaits d = true) ∧ (d ∈ s.mport.orphaned ↔ s.ownerOrphaned d = true)

/-! ## The response path -/

/-- Whether a reference's owner waits in the RRL: a RETURNED slot, a SEALED record (R125). -/
def State.waitsInRrl (s : State) : RrlRef → Bool
  | .slot i =>
    match s.slot i with
    | some ⟨_, _, _, .read _ _ (.returned _ _)⟩ => true
    | _ => false
  | .record src => (s.record src).isSealed

/-- Whether a slot is a detached read that is RETURNED; R20 and R21 leave none. -/
def Slot.isDetachedAnswer (sl : Slot) : Bool :=
  match sl.body with
  | .read _ true (.returned _ _) => true
  | _ => false

/-- R125: the RRL holds every owner that waits in it once and nothing else, and no referenced slot is detached. -/
abbrev State.RrlLaw (s : State) : Prop :=
  s.resp.rrl.Nodup ∧ (∀ r : RrlRef, r ∈ s.resp.rrl ↔ s.waitsInRrl r = true)
    ∧ ∀ i : SlotId, ∀ sl ∈ s.slot i, sl.isDetachedAnswer = false

/-- R120 for one record: FILLING holds 1 to 7 write acknowledgements; SEALED holds 1 to 8, a flush completion only as the
last. -/
def BundleRecord.lawful : BundleRecord → Bool
  | .empty => true
  | .filling acks _ => 1 ≤ acks.length && acks.length < Config.bundleLimit && acks.all fun a => a.kind == .write
  | .sealed acks =>
    1 ≤ acks.length && acks.length ≤ Config.bundleLimit && acks.dropLast.all fun a => a.kind == .write

/-- R120: every bundle record is lawful. -/
abbrev State.BundleLaw (s : State) : Prop := ∀ src : Source, (s.record src).lawful = true

/-! ## Ports, log and meter -/

/-- R154: while the H-port is UP a lane's occupancy and its released credits make its capacity; while DOWN both are 0. -/
abbrev State.LaneLaw (s : State) : Prop :=
  if s.hport.up then
    s.hport.readLane.length + s.hport.readCredits = Config.readLaneSize
      ∧ s.hport.writeLane.length + s.hport.writeCredits = Config.writeLaneSize
      ∧ s.hport.flushLane.length + s.hport.flushCredits = Config.flushLaneSize
  else
    s.hport.readLane.length + s.hport.readCredits = 0 ∧ s.hport.writeLane.length + s.hport.writeCredits = 0
      ∧ s.hport.flushLane.length + s.hport.flushCredits = 0

/-- R107, R128, R130, R165: credits, the RQ and the notice log stay within their limits. -/
abbrev State.LimitLaw (s : State) : Prop :=
  s.mport.credits ≤ Config.creditLimit ∧ s.resp.credits ≤ Config.creditLimit
    ∧ s.resp.rq.length ≤ Config.rqPlaces ∧ s.mgmt.notices.length ≤ Config.noticeLimit

/-- R169: the IRQ line stands at the level that the oldest notice, the quiet status and the enables give it. -/
abbrev State.IrqLaw (s : State) : Prop := s.mgmt.irqLine = s.irqLevel

/-- R164: the controller is never DRAINING with the quiet condition holding, and the quiet status is set exactly in
QUIET. -/
abbrev State.QuietLaw (s : State) : Prop :=
  ¬(s.mgmt.quiesce = .draining ∧ s.quietCondition = true) ∧ (s.mgmt.quietStatus = true ↔ s.mgmt.quiesce = .quiet)

/-- The end of a happening that may complete the quiet condition, `quiet` saying whether it now holds: DRAINING leads to
QUIET, with QUIET_REACHED logged after the happening's other notices (R164, notes/assumptions/12.md). -/
def State.settled (s : State) (quiet : Bool) : State :=
  if s.mgmt.quiesce = .draining ∧ quiet = true then s.enterQuiet else s

/-- R161: every field of a meter configuration holds a value of its range. -/
abbrev MeterConf.inRange (c : MeterConf) : Prop :=
  1 ≤ c.ceiling ∧ c.ceiling ≤ 48 ∧ c.floor ≤ 48 ∧ 1 ≤ c.enter ∧ c.enter ≤ 15 ∧ 1 ≤ c.exit ∧ c.exit ≤ 15
    ∧ 1 ≤ c.limit ∧ c.limit ≤ 48

/-- R160, R161: every configuration register holds a value of its range, and so does every meter configuration, in force or
pending. -/
abbrev State.RangeLaw (s : State) : Prop :=
  (s.mgmt.regs.topLine.toNat ≤ 2 ^ 40 ∧ 1 ≤ s.mgmt.regs.mergeAge ∧ s.mgmt.regs.mergeAge ≤ 4095
      ∧ 1 ≤ s.mgmt.regs.hintLife ∧ s.mgmt.regs.hintLife ≤ 255 ∧ s.mgmt.regs.bundleHold ≤ 255
      ∧ s.mgmt.regs.deadline ≤ 65535 ∧ 1 ≤ s.mgmt.regs.meterSample ∧ s.mgmt.regs.meterSample ≤ 255
      ∧ 16 ≤ s.mgmt.regs.meterWindow ∧ s.mgmt.regs.meterWindow ≤ 4096)
    ∧ ∀ src : Source, (s.meterOf src).conf.inRange ∧ ∀ c ∈ (s.meterOf src).waiting, c.inRange

/-- Section 8.1: a source is OFF exactly while its configuration in force is disabled, and a pending one is enabling. -/
abbrev State.MeterLaw (s : State) : Prop :=
  ∀ src : Source,
    ((s.meterOf src).state = .off ↔ (s.meterOf src).conf.isDisabled = true)
      ∧ ∀ c ∈ (s.meterOf src).waiting, c.isDisabled = false

/-! ## The flush logic and the tag map -/

/-- Whether slot `i` is a flush of source `src`. -/
def State.isFlushOf (s : State) (src : Source) (i : SlotId) : Bool :=
  match s.slot i with
  | some ⟨src', _, _, .flush _⟩ => src' == src
  | _ => false

/-- R50: a source's flush order list holds each of its FLUSH_WAIT slots once, and nothing else. -/
abbrev State.OrderLaw (s : State) : Prop :=
  ∀ src : Source, (s.flushOrder src).Nodup ∧ ∀ i : SlotId, i ∈ s.flushOrder src ↔ s.isFlushOf src i = true

/-- The waiting_flushes list of a buffer; only a SEALED or DRAINING one has one (section 2.1). -/
def Buffer.waitingFlushes (b : Buffer) : List SlotId :=
  match b.phase with
  | .sealed _ _ _ w => w
  | .draining _ _ w _ => w
  | .opened _ _ | .orphaned _ => []

/-- The waiting_flushes list of buffer `b` of the part, empty for a FREE one. -/
def State.flushesOn (s : State) (b : BufferId) : List SlotId := ((s.buffer b).map Buffer.waitingFlushes).getD []

/-- The remaining count of the flush in slot `i`; none for any other slot. -/
def State.remainingOf (s : State) (i : SlotId) : Nat :=
  match s.slot i with
  | some ⟨_, _, _, .flush n⟩ => n
  | _ => 0

/-- The contributors set of buffer `b` of the part, empty for a FREE one. -/
def State.contributorsOf (s : State) (b : BufferId) : List Source := ((s.buffer b).map Buffer.contributors).getD []

/-- The source of the request in slot `i`, none for a FREE slot. -/
def State.sourceOf (s : State) (i : SlotId) : Option Source := (s.slot i).map Slot.source

/-- R49, R51: no list holds a flush twice, a flush's remaining count is the number of buffers whose lists hold it, only
flushes stand on the lists, and a flush stands only on the lists of buffers its source contributes to. -/
abbrev State.FlushLaw (s : State) : Prop :=
  (∀ b : BufferId, (s.flushesOn b).Nodup)
    ∧ (∀ i : SlotId, s.remainingOf i = bufferIds.countP fun b => (s.flushesOn b).contains i)
    ∧ ∀ b : BufferId, ∀ i ∈ s.flushesOn b, ∃ src ∈ s.sourceOf i, src ∈ s.contributorsOf b

/-- R52, R54: where the head of a source's flush order list is finished (a flush with remaining 0), the source's record is
SEALED; else the flush would have completed. -/
abbrev State.FinishLaw (s : State) : Prop :=
  ∀ src : Source, ∀ i ∈ (s.flushOrder src).head?, s.isFlushOf src i = true → s.remainingOf i = 0 →
    (s.record src).isSealed = true

/-- The resolution of a buffer whose list is `flushes` completes the flush in slot `i`: it stands on the list, this buffer
is its last one, it heads its source's flush order list and its source's record is not SEALED (R51, R52). -/
def State.completesOn (s : State) (flushes : List SlotId) (i : SlotId) : Bool :=
  match s.slot i with
  | some ⟨src, _, _, .flush 1⟩ =>
    flushes.contains i && (s.flushOrder src).head? == some i && !(s.record src).isSealed
  | _ => false

/-- The bundle records that those completions seal, in list order (R53, R55). -/
def State.recordsSealedBy (s : State) (flushes : List SlotId) : List RrlRef :=
  (flushes.filter (s.completesOn flushes)).filterMap fun i => (s.sourceOf i).map RrlRef.record

/-! ## M-link down (R115) -/

/-- Whether a buffer is DRAINING. -/
def Buffer.isDraining (b : Buffer) : Bool :=
  match b.phase with
  | .draining _ _ _ _ => true
  | .opened _ _ | .sealed _ _ _ _ | .orphaned _ => false

/-- The DRAINING buffers on whose lists the flush in slot `i` stands, ascending: they fail at M-link down (R45). -/
def State.failingFor (s : State) (i : SlotId) : List BufferId :=
  bufferIds.filter fun b => (s.buffer b).any fun x => x.isDraining && x.waitingFlushes.contains i

/-- M-link down completes the flush in slot `i` with the failure of buffer `b`: `b` is the last DRAINING buffer of its
list, no other buffer holds it back, it heads its source's flush order list and its source's record is not SEALED (R51,
R52, R59). -/
def State.completesAtLoss (s : State) (b : BufferId) (i : SlotId) : Bool :=
  match s.slot i with
  | some ⟨src, _, _, .flush n⟩ =>
    (s.failingFor i).getLast? == some b && n == (s.failingFor i).length && (s.flushOrder src).head? == some i
      && !(s.record src).isSealed
  | _ => false

/-- The flushes that M-link down completes, in the order in which it does: by buffer, and by list order in it (R55). -/
def State.flushesEndedByLoss (s : State) : List SlotId :=
  bufferIds.flatMap fun b => (s.flushesOn b).filter (s.completesAtLoss b)

/-- What the end of buffer `b` at M-link down puts at the IQ tail: its waiting reads, and behind them the next SEALED buffer
of its line (R39, R44, R45, R46). -/
def State.requeuedByLoss (s : State) (b : BufferId) : List IqRef :=
  match s.buffer b with
  | some x =>
    if x.isDraining || x.isOrphaned then
      x.waitingReads.map IqRef.slot ++ (s.nextSealed? x.line).toList.map IqRef.buffer
    else []
  | none => []

/-- The acknowledgements a record holds. -/
def BundleRecord.acks : BundleRecord → List Ack
  | .empty => []
  | .filling acks _ => acks
  | .sealed acks => acks

/-- The pair a slot holds: a read's that is not detached and has not handed on its response, or a flush's (section 1.3). -/
def Slot.heldPair (sl : Slot) : Option (Source × Tag) :=
  match sl.body with
  | .read _ true _ => none
  | .read _ false .orphaned => none
  | .read _ false _ => some (sl.source, sl.tag)
  | .write _ _ _ => none
  | .flush _ => some (sl.source, sl.tag)

/-- Every pair that a slot or a bundle entry holds, once for each holder (section 1.3). -/
def State.heldPairs (s : State) : List (Source × Tag) :=
  (slotIds.filterMap fun i => (s.slot i).bind Slot.heldPair)
    ++ sources.flatMap fun src => (s.record src).acks.map fun a => (src, a.tag)

/-- R8: no pair is twice in the tag map, and each of its pairs has exactly one holder. -/
abbrev State.TagLaw (s : State) : Prop :=
  s.tt.tagMap.Nodup ∧ ∀ q : Source × Tag, s.heldPairs.count q = if q ∈ s.tt.tagMap then 1 else 0

/-! ## Time -/

/-- Whether a command is the running out of a timer that has no time left to run. In real time a timer command is taken
when it is due; the model lets it be taken at any time while the timer runs, but for the sample timer, which must have
run out (notes/assumptions/4.md). -/
def State.due (s : State) : Instr → Bool
  | .readDeadline i =>
    match s.slot i with
    | some ⟨_, _, _, .read _ _ (.issued (some n))⟩ => n == 0
    | _ => false
  | .drainDeadline b =>
    match s.buffer b with
    | some ⟨_, _, _, _, .draining _ _ _ (some n)⟩ => n == 0
    | _ => false
  | .fetchDeadline e =>
    match s.entry e with
    | some ⟨_, _, .pending ⟨false, _, some n⟩⟩ => n == 0
    | some ⟨_, _, .stale ⟨false, _, some n⟩⟩ => n == 0
    | _ => false
  | .ageTimer b =>
    match s.buffer b with
    | some ⟨_, _, _, _, .opened _ n⟩ => n == 0
    | _ => false
  | .lifeTimer e =>
    match s.entry e with
    | some ⟨_, _, .held _ n⟩ => n == 0
    | _ => false
  | .holdTimer src =>
    match s.record src with
    | .filling _ n => n == 0
    | .empty | .sealed _ => false
  | .sample | .windowClose => s.meter.sampleTimer == 0
  | _ => false

end Sys2Proof.Machine
end

