-- ==== Sys2Proof/Certificates/Slice0/Obligations.lean ====
section
/-! DEFINITION. The statements about the part. Each definition is one proposition; OBLIGATIONS.json gives its title, its
tier and the rules of spec/ it rests on. -/

open Sys2Proof Sys2Proof.Machine

/-! ## The queue, time and reset -/

/-- A step takes the command at the front of the queue and is exec of it on the state with the queue's rest. -/
def Obligations.StepRunsFrontCommand : Prop :=
  ∀ (s : State) (c : Instr) (rest : List Instr), s.pending = c :: rest → step s = exec c { s with pending := rest }

/-- The model's choice (log 3): on an empty queue a step lets 10 ns pass, in which no timer runs out. The time counter of
R167 counts a microsecond for each 100 of them, and every running timer (a read deadline, an age timer, a drain deadline, a
fetch deadline, a life timer, a hold timer, the sample timer) comes 10 ns nearer with each, down to 0; a record without a
running timer does not change. -/
def Obligations.EmptyQueuePassesTime : Prop :=
  (∀ s : State, s.pending = [] →
    ∃ t, step s = .next t ∧ t = s.tick
      ∧ (s.mgmt.subTime < 99 → t.mgmt.time = s.mgmt.time ∧ t.mgmt.subTime = s.mgmt.subTime + 1)
      ∧ (99 ≤ s.mgmt.subTime → t.mgmt.time = s.mgmt.time + 1 ∧ t.mgmt.subTime = 0)
      ∧ t = { s with
          tt.slots := t.tt.slots, mb.buffers := t.mb.buffers, es.entries := t.es.entries,
          resp.records := t.resp.records, meter.sampleTimer := s.meter.sampleTimer - 1, mgmt.time := t.mgmt.time,
          mgmt.subTime := t.mgmt.subTime }
      ∧ (∀ i, t.slot i = (s.slot i).map Slot.tick) ∧ (∀ b, t.buffer b = (s.buffer b).map Buffer.tick)
      ∧ (∀ e, t.entry e = (s.entry e).map Entry.tick) ∧ ∀ src, t.record src = (s.record src).tick)
    ∧ (∀ (s : State) (n : Nat), s.mgmt.subTime < 100 →
      (State.tick^[n] s).mgmt.time = s.mgmt.time + BitVec.ofNat 32 ((s.mgmt.subTime + n) / 100)
        ∧ (State.tick^[n] s).mgmt.subTime = (s.mgmt.subTime + n) % 100
        ∧ ∀ i src tag charge line detached left, s.slot i = some ⟨src, tag, charge, .read line detached (.issued (some left))⟩ →
          (State.tick^[n] s).slot i = some ⟨src, tag, charge, .read line detached (.issued (some (left - n)))⟩)
    ∧ ∀ (s : State) (n : Nat), ∃ t, t = State.tick^[n] s ∧ t.meter.sampleTimer = s.meter.sampleTimer - n
      ∧ (∀ i, s.slot i = none → t.slot i = none)
      ∧ (∀ i sl, s.slot i = some sl →
          (∀ src tag charge line detached left, sl ≠ ⟨src, tag, charge, .read line detached (.issued (some left))⟩) →
          t.slot i = some sl)
      ∧ (∀ b, s.buffer b = none → t.buffer b = none)
      ∧ (∀ b line m openedAt reads,
          (∀ c age, s.buffer b = some ⟨line, m, openedAt, reads, .opened c age⟩ →
            t.buffer b = some ⟨line, m, openedAt, reads, .opened c (age - n)⟩)
          ∧ (∀ c cause w left, s.buffer b = some ⟨line, m, openedAt, reads, .draining c cause w (some left)⟩ →
            t.buffer b = some ⟨line, m, openedAt, reads, .draining c cause w (some (left - n))⟩)
          ∧ (∀ c cause w, s.buffer b = some ⟨line, m, openedAt, reads, .draining c cause w none⟩ →
            t.buffer b = s.buffer b)
          ∧ (∀ c cause queued w, s.buffer b = some ⟨line, m, openedAt, reads, .sealed c cause queued w⟩ →
            t.buffer b = s.buffer b)
          ∧ (∀ cause, s.buffer b = some ⟨line, m, openedAt, reads, .orphaned cause⟩ → t.buffer b = s.buffer b))
      ∧ (∀ e, s.entry e = none → t.entry e = none)
      ∧ (∀ e line by' queued attached,
          (∀ left, s.entry e = some ⟨line, by', .pending ⟨queued, attached, some left⟩⟩ →
            t.entry e = some ⟨line, by', .pending ⟨queued, attached, some (left - n)⟩⟩)
          ∧ (∀ left, s.entry e = some ⟨line, by', .stale ⟨queued, attached, some left⟩⟩ →
            t.entry e = some ⟨line, by', .stale ⟨queued, attached, some (left - n)⟩⟩)
          ∧ (s.entry e = some ⟨line, by', .pending ⟨queued, attached, none⟩⟩ → t.entry e = s.entry e)
          ∧ (s.entry e = some ⟨line, by', .stale ⟨queued, attached, none⟩⟩ → t.entry e = s.entry e)
          ∧ (∀ data life, s.entry e = some ⟨line, by', .held data life⟩ →
            t.entry e = some ⟨line, by', .held data (life - n)⟩)
          ∧ (s.entry e = some ⟨line, by', .orphaned⟩ → t.entry e = s.entry e))
      ∧ ∀ src, (∀ acks hold, s.record src = .filling acks hold → t.record src = .filling acks (hold - n))
          ∧ (s.record src = .empty → t.record src = .empty)
          ∧ ∀ acks, s.record src = .sealed acks → t.record src = .sealed acks

/-- A cold reset leaves every block in the state its chapter's reset table gives. That the queue of waiting commands is kept
is the model's choice (log 8). -/
def Obligations.ColdResetRestoresEveryBlock : Prop :=
  ∀ s : State, ∃ t, exec .coldReset s = .next t ∧ t.pending = s.pending
    ∧ ((∀ i, t.slot i = none) ∧ t.tt.charges = ⟨0, 0, 0, 0⟩ ∧ t.tt.tagMap = [] ∧ ∀ src, t.holdingOf src = 0)
    ∧ ((∀ b, t.buffer b = none) ∧ t.mb.ageOrder = [])
    ∧ (∀ src, t.latch src = false ∧ t.flushOrder src = [])
    ∧ (∀ e, t.entry e = none)
    ∧ t.adm.lastServed = .flush
    ∧ (t.mport.up = false ∧ t.mport.credits = 0 ∧ t.mport.iq = [] ∧ t.mport.outstanding = [] ∧ t.mport.orphaned = [])
    ∧ ((∀ src, t.record src = .empty) ∧ t.resp.rrl = [] ∧ t.resp.rq = [] ∧ t.resp.credits = 0)
    ∧ (t.hport.up = false ∧ t.hport.readLane = [] ∧ t.hport.writeLane = [] ∧ t.hport.flushLane = []
      ∧ t.hport.readCredits = 0 ∧ t.hport.writeCredits = 0 ∧ t.hport.flushCredits = 0 ∧ t.hport.arrivals = 0)
    ∧ (t.meter.sampleTimer = 100 ∧ t.meter.sampleCount = 0
      ∧ ∀ src, t.meterOf src = ⟨⟨false, 48, 0, 1, 1, 48⟩, none, .off, 0, 0⟩)
    ∧ (t.mgmt.regs = ⟨BitVec.ofNat 41 (2 ^ 40), 256, true, 64, true, 8, 20, 100, 10, 256, 0⟩
      ∧ t.mgmt.quiesce = .run ∧ t.mgmt.quietStatus = false ∧ t.mgmt.notices = [] ∧ t.mgmt.lost = false
      ∧ (∀ c, t.counter c = 0) ∧ t.mgmt.time = 0 ∧ t.mgmt.irqLine = false)

/-- Every law of Safety.lean holds right after reset. -/
def Obligations.ResetMeetsEveryLaw : Prop :=
  (State.reset.ChargesLaw ∧ State.reset.HoldingLaw ∧ State.reset.TagLaw)
    ∧ (State.reset.MergedLaw ∧ State.reset.LineLaw ∧ State.reset.AgeLaw ∧ State.reset.EntryLaw ∧ State.reset.WaitLaw)
    ∧ (State.reset.IqLaw ∧ State.reset.DtagLaw ∧ State.reset.RrlLaw ∧ State.reset.BundleLaw)
    ∧ (State.reset.LaneLaw ∧ State.reset.LimitLaw ∧ State.reset.IrqLaw ∧ State.reset.QuietLaw)
    ∧ (State.reset.MeterLaw ∧ State.reset.RangeLaw ∧ State.reset.OrderLaw ∧ State.reset.FlushLaw
      ∧ State.reset.FinishLaw)

/-! ## The links -/

/-- LinkUp takes a port that is DOWN to UP, the H-port with its 20 Releases, the M-port with no credit and empty dtag
sets, and nothing else changes; a port that is UP is left as it is. -/
def Obligations.LinkUpOpensThePort : Prop :=
  ∀ s : State,
    (s.hport.up = false →
      exec .hLinkUp s = .next { s with
        hport := { s.hport with
          up := true, readCredits := 8, writeCredits := 8, flushCredits := 4, arrivals := 0
          sent := s.hport.sent ++ (List.replicate 8 (.release .read) ++ List.replicate 8 (.release .write)
            ++ List.replicate 4 (.release .flush)) }
        resp := { s.resp with credits := 0 } })
    ∧ (s.hport.up = true → exec .hLinkUp s = .next s)
    ∧ (s.mport.up = false →
      exec .mLinkUp s = .next { s with mport := { s.mport with up := true, credits := 0, outstanding := [], orphaned := [] } })
    ∧ (s.mport.up = true → exec .mLinkUp s = .next s)

/-- A port that is DOWN receives nothing, and neither a further LinkDown nor a link reset changes anything. -/
def Obligations.DownPortReceivesNothing : Prop :=
  ∀ s : State,
    (s.hport.up = false →
      (∀ src tag line, exec (.read src tag line) s = .next s) ∧ (∀ src line, exec (.hint src line) s = .next s)
      ∧ (∀ src tag line data, exec (.write src tag line data) s = .next s)
      ∧ (∀ src tag line p, exec (.maskedWrite src tag line p) s = .next s)
      ∧ (∀ src tag, exec (.flush src tag) s = .next s) ∧ (∀ n, exec (.hGrant n) s = .next s)
      ∧ exec .hLinkDown s = .next s ∧ exec .hLinkReset s = .next s)
    ∧ (s.mport.up = false →
      (∀ d st data, exec (.fetchData d st data) s = .next s) ∧ (∀ d st, exec (.storeDone d st) s = .next s)
      ∧ (∀ n, exec (.mGrant n) s = .next s) ∧ exec .mLinkDown s = .next s ∧ exec .mLinkReset s = .next s)

/-- H-link down: the port's lanes and credits are gone, unanswered reads are detached in place, answered ones and flushes
are freed (a timed-out one is ORPHANED), the tag map, the flush logic and the response path are empty, H_LINK_DOWN is
logged, and buffers, entries, the IQ and the meter stay; DRAINING leads to QUIET if the quiet condition now holds,
QUIET_REACHED behind H_LINK_DOWN (log 12, DEDUCED). H_LINK_RESET is the same loss with the link made to restart. -/
def Obligations.HostLinkLossDetachesReads : Prop :=
  ∀ s : State, s.hport.up = true →
    ∃ t, exec .hLinkDown s = .next t
      ∧ exec .hLinkReset s = .next { t with hport := { t.hport with restarts := t.hport.restarts + 1 } }
      ∧ t.hport = { s.hport with
          up := false, readLane := [], writeLane := [], flushLane := [], readCredits := 0, writeCredits := 0
          flushCredits := 0, arrivals := 0 }
      ∧ (∀ i, t.slot i =
          match s.slot i with
          | some ⟨src, tag, c, .read l _ .ready⟩ => some ⟨src, tag, c, .read l true .ready⟩
          | some ⟨src, tag, c, .read l _ (.issued o)⟩ => some ⟨src, tag, c, .read l true (.issued o)⟩
          | some ⟨src, tag, c, .read l _ (.waitWrite b)⟩ => some ⟨src, tag, c, .read l true (.waitWrite b)⟩
          | some ⟨src, tag, c, .read l _ (.attached e)⟩ => some ⟨src, tag, c, .read l true (.attached e)⟩
          | some ⟨src, tag, c, .read l d (.returned _ true)⟩ => some ⟨src, tag, c, .read l d .orphaned⟩
          | some ⟨_, _, _, .read _ _ (.returned _ false)⟩ => none
          | some ⟨_, _, _, .flush _⟩ => none
          | x => x)
      ∧ t.tt.tagMap = []
      ∧ (∀ b, t.buffer b = (s.buffer b).map (Buffer.mapFlushes fun _ => [])) ∧ t.mb.ageOrder = s.mb.ageOrder
      ∧ (∀ src, t.flushOrder src = [] ∧ t.latch src = false ∧ t.record src = .empty)
      ∧ t.resp.rrl = [] ∧ t.resp.rq = [] ∧ t.resp.credits = 0
      ∧ t.es = s.es ∧ t.meter = s.meter ∧ t.adm = s.adm ∧ t.pending = s.pending
      ∧ t.mport = { s.mport with outstanding := t.mport.outstanding, orphaned := t.mport.orphaned }
      ∧ (∀ d, 48 ≤ d.toNat → (d ∈ t.mport.outstanding ↔ d ∈ s.mport.outstanding)
          ∧ (d ∈ t.mport.orphaned ↔ d ∈ s.mport.orphaned))
      ∧ t.mgmt = ((s.logNotice ⟨.hLinkDown, s.mgmt.time, none, none, none, none, none⟩).settled t.quietCondition).mgmt

/-- M-link down: no credit and no dtag is left and M_LINK_DOWN is logged; ISSUED reads end with LINK_DOWN (a detached one is
freed) and orphans are freed; DRAINING buffers fail with their latches and DRAIN_FAULTS, free their write slots and count
their flushes down; hint fetches end, queued ones withdrawn from the IQ; the reads that waited for these join the IQ; the
other records and the IQ's other references stay. QUIET_REACHED, if due, stands behind M_LINK_DOWN (log 12, DEDUCED).
M_LINK_RESET is the same loss with the link made to restart. -/
def Obligations.MemoryLinkLossEndsRequests : Prop :=
  ∀ s : State, s.mport.up = true →
    ∃ t, exec .mLinkDown s = .next t
      ∧ exec .mLinkReset s = .next { t with mport := { t.mport with restarts := t.mport.restarts + 1 } }
      ∧ t.mport = { s.mport with up := false, credits := 0, iq := t.mport.iq, outstanding := [], orphaned := [] }
      ∧ ((s.mport.iq.filter fun r =>
          match r with
          | .entry e => (s.entry e).all fun x => x.isHeld || x.phase == .orphaned
          | _ => true) <+: t.mport.iq)
      ∧ (∀ i src tag c l o, s.slot i = some ⟨src, tag, c, .read l false (.issued o)⟩ →
          t.slot i = some ⟨src, tag, c, .read l false (.returned .linkDown false)⟩ ∧ .slot i ∈ t.resp.rrl)
      ∧ (∀ i src tag c l o, s.slot i = some ⟨src, tag, c, .read l true (.issued o)⟩ → t.slot i = none)
      ∧ (∀ i src tag c l d, s.slot i = some ⟨src, tag, c, .read l d .orphaned⟩ → t.slot i = none)
      ∧ (∀ i src tag c l d r o, s.slot i = some ⟨src, tag, c, .read l d (.returned r o)⟩ →
          t.slot i = some ⟨src, tag, c, .read l d (.returned r false)⟩)
      ∧ (∀ i src tag c l d, s.slot i = some ⟨src, tag, c, .read l d .ready⟩ → t.slot i = s.slot i)
      ∧ (∀ b x, s.buffer b = some x →
          match x.phase with
          | .opened _ _ => t.buffer b = some x
          | .sealed c cause queued w =>
            ∃ queued', (queued = true → queued' = true) ∧ t.buffer b = some { x with phase := .sealed c cause queued' w }
          | .draining c _ _ _ =>
            t.buffer b = none ∧ ∀ src ∈ c.contributors, s.flushOrder src = [] → t.latch src = true
          | .orphaned _ => t.buffer b = none)
      ∧ (∀ e x, s.entry e = some x → t.entry e = if x.isHeld then some x else none)
      ∧ t.counter .drainFaults = s.counter .drainFaults + BitVec.ofNat 32 (s.countBuffers fun x =>
          match x.phase with
          | .draining _ _ _ _ => true
          | _ => false)
      ∧ (∀ i, s.slot i = none → t.slot i = none) ∧ (∀ b, s.buffer b = none → t.buffer b = none)
      ∧ (∀ e, s.entry e = none → t.entry e = none)
      ∧ (∀ i src tag c l m b x, s.slot i = some ⟨src, tag, c, .write l m b⟩ → s.buffer b = some x →
          t.slot i = if x.isDraining then none else s.slot i)
      ∧ (s.WaitLaw →
          (∀ i src tag c l d b x, s.slot i = some ⟨src, tag, c, .read l d (.waitWrite b)⟩ → s.buffer b = some x →
            t.slot i = if x.isDraining || x.isOrphaned then some ⟨src, tag, c, .read l d .ready⟩ else s.slot i)
          ∧ (∀ i src tag c l d e, s.slot i = some ⟨src, tag, c, .read l d (.attached e)⟩ →
            t.slot i = some ⟨src, tag, c, .read l d .ready⟩)
          ∧ (s.LineLaw →
            t.mport.iq = (s.mport.iq.filter fun r =>
                match r with
                | .entry e => (s.entry e).all fun x => x.isHeld || x.phase == .orphaned
                | _ => true)
              ++ bufferIds.flatMap s.requeuedByLoss ++ entryIds.flatMap fun e => (s.attachedTo e).map IqRef.slot))
      ∧ (s.LineLaw → ∀ b line m openedAt reads c cause queued w,
          s.buffer b = some ⟨line, m, openedAt, reads, .sealed c cause queued w⟩ →
            t.buffer b = some ⟨line, m, openedAt, reads,
              .sealed c cause (queued || bufferIds.any fun b' => (s.requeuedByLoss b').contains (.buffer b)) w⟩)
      ∧ (s.OrderLaw → s.FlushLaw → s.FinishLaw →
          (∀ i src tag c n, s.slot i = some ⟨src, tag, c, .flush n⟩ →
            (i ∈ s.flushesEndedByLoss → t.slot i = none)
            ∧ (i ∉ s.flushesEndedByLoss → t.slot i = some ⟨src, tag, c, .flush (n - (s.failingFor i).length)⟩))
          ∧ (∀ i src tag c n order, s.slot i = some ⟨src, tag, c, .flush n⟩ → 0 < n → n = (s.failingFor i).length →
              s.flushOrder src = i :: order → (s.record src).isSealed = false →
            i ∈ s.flushesEndedByLoss ∧ t.flushOrder src = order
            ∧ t.record src = .sealed ((s.record src).acks ++ [⟨tag, .flush, .fault⟩])
            ∧ t.latch src = bufferIds.any fun b => (s.failingFor i).all (· < b)
                && (s.buffer b).any fun x => x.isDraining && x.contributors.contains src)
          ∧ (∀ src, (∀ i ∈ s.flushesEndedByLoss, s.sourceOf i ≠ some src) →
            t.flushOrder src = s.flushOrder src ∧ t.record src = s.record src
            ∧ t.latch src = (s.latch src
                || bufferIds.any fun b => (s.buffer b).any fun x => x.isDraining && x.contributors.contains src))
          ∧ t.resp.rrl = s.resp.rrl
            ++ (slotIds.filter fun i =>
                match s.slot i with
                | some ⟨_, _, _, .read _ false (.issued _)⟩ => true
                | _ => false).map RrlRef.slot
            ++ s.flushesEndedByLoss.filterMap fun i => (s.sourceOf i).map RrlRef.record)
      ∧ (∃ logged, logged = (s.logNotice ⟨.mLinkDown, s.mgmt.time, none, none, none, none, none⟩).settled t.quietCondition
          ∧ t.mgmt = { logged.mgmt with counters := t.mgmt.counters }
          ∧ ∀ c, c ≠ .drainFaults → t.counter c = logged.counter c)
      ∧ t.hport = s.hport ∧ t.adm = s.adm ∧ t.meter = s.meter ∧ t.tt.tagMap = s.tt.tagMap ∧ t.resp.rq = s.resp.rq
      ∧ t.resp.credits = s.resp.credits ∧ t.mgmt.regs = s.mgmt.regs ∧ t.pending = s.pending

/-! ## Arrivals -/

/-- A request received while UP takes the next stamp and the tail of its lane, uses one released credit of the lane, and
changes nothing else. -/
def Obligations.RequestJoinsItsLane : Prop :=
  ∀ (s : State) (src : Source) (tag : Tag) (line : Line), s.hport.up = true →
    (s.hport.readLane.length < 8 →
      exec (.read src tag line) s = .next { s with hport := { s.hport with
        readLane := s.hport.readLane ++ [.read (s.hport.arrivals + 1) src tag line]
        readCredits := s.hport.readCredits - 1, arrivals := s.hport.arrivals + 1 } }
      ∧ exec (.hint src line) s = .next { s with hport := { s.hport with
        readLane := s.hport.readLane ++ [.hint (s.hport.arrivals + 1) src line]
        readCredits := s.hport.readCredits - 1, arrivals := s.hport.arrivals + 1 } })
    ∧ (s.hport.writeLane.length < 8 → ∀ (data : LineData) (p : Payload),
      exec (.write src tag line data) s = .next { s with hport := { s.hport with
        writeLane := s.hport.writeLane
          ++ [⟨s.hport.arrivals + 1, src, tag, line, false, Vector.ofFn fun k => some (tget data k)⟩]
        writeCredits := s.hport.writeCredits - 1, arrivals := s.hport.arrivals + 1 } }
      ∧ exec (.maskedWrite src tag line p) s = .next { s with hport := { s.hport with
        writeLane := s.hport.writeLane ++ [⟨s.hport.arrivals + 1, src, tag, line, true, p⟩]
        writeCredits := s.hport.writeCredits - 1, arrivals := s.hport.arrivals + 1 } })
    ∧ (s.hport.flushLane.length < 4 →
      exec (.flush src tag) s = .next { s with hport := { s.hport with
        flushLane := s.hport.flushLane ++ [⟨s.hport.arrivals + 1, src, tag⟩]
        flushCredits := s.hport.flushCredits - 1, arrivals := s.hport.arrivals + 1 } })

/-- A request received for a full lane is discarded: one INGRESS_OVERFLOW notice with the fields it has, and nothing
else. -/
def Obligations.FullLaneDiscardsRequest : Prop :=
  ∀ (s : State) (src : Source) (tag : Tag) (line : Line), s.hport.up = true →
    (8 ≤ s.hport.readLane.length →
      exec (.read src tag line) s
        = .next (s.logNotice ⟨.ingressOverflow, s.mgmt.time, some src, some tag, some line, none, none⟩)
      ∧ exec (.hint src line) s
        = .next (s.logNotice ⟨.ingressOverflow, s.mgmt.time, some src, none, some line, none, none⟩))
    ∧ (8 ≤ s.hport.writeLane.length → ∀ (data : LineData) (p : Payload),
      exec (.write src tag line data) s
        = .next (s.logNotice ⟨.ingressOverflow, s.mgmt.time, some src, some tag, some line, none, none⟩)
      ∧ exec (.maskedWrite src tag line p) s
        = .next (s.logNotice ⟨.ingressOverflow, s.mgmt.time, some src, some tag, some line, none, none⟩))
    ∧ (4 ≤ s.hport.flushLane.length →
      exec (.flush src tag) s
        = .next (s.logNotice ⟨.ingressOverflow, s.mgmt.time, some src, some tag, none, none, none⟩))

/-- A Grant received while UP raises the port's credits, and one that would pass 32 leaves 32 and logs its excess. -/
def Obligations.GrantRaisesCredits : Prop :=
  ∀ (s : State) (n : Nat),
    (s.hport.up = true →
      (s.resp.credits + n ≤ 32 →
        exec (.hGrant n) s = .next { s with resp := { s.resp with credits := s.resp.credits + n } })
      ∧ (32 < s.resp.credits + n →
        exec (.hGrant n) s = .next (State.logNotice { s with resp := { s.resp with credits := 32 } }
          ⟨.excessGrantH, s.mgmt.time, none, none, none, none, none⟩)))
    ∧ (s.mport.up = true →
      (s.mport.credits + n ≤ 32 →
        exec (.mGrant n) s = .next { s with mport := { s.mport with credits := s.mport.credits + n } })
      ∧ (32 < s.mport.credits + n →
        exec (.mGrant n) s = .next (State.logNotice { s with mport := { s.mport with credits := 32 } }
          ⟨.excessGrantM, s.mgmt.time, none, none, none, none, none⟩)))

/-! ## Answers from memory -/

/-- FetchData for an ISSUED read: the slot is RETURNED with the data and its reference joins the RRL; POISON is logged. A
detached slot is freed instead, with the same notice, and no response is made; QUIET_REACHED, if due, stands behind
READ_POISON (log 12, DEDUCED). -/
def Obligations.FetchAnswerReturnsRead : Prop :=
  ∀ (s : State) (i : SlotId) (src : Source) (tag : Tag) (c : Charge) (l : Line) (o : Option Ticks) (data : LineData),
    s.mport.up = true → slotDtag i ∈ s.mport.outstanding →
    (s.slot i = some ⟨src, tag, c, .read l false (.issued o)⟩ →
      exec (.fetchData (slotDtag i) .ok data) s
        = .next (((s.dtagFree (slotDtag i)).setSlot i
            (some ⟨src, tag, c, .read l false (.returned (.ok data) false)⟩)).pushRrl (.slot i))
      ∧ exec (.fetchData (slotDtag i) .poison data) s
        = .next ((((s.dtagFree (slotDtag i)).logNotice
            ⟨.readPoison, s.mgmt.time, some src, some tag, some l, some (slotDtag i), none⟩).setSlot i
            (some ⟨src, tag, c, .read l false (.returned (.poison data) false)⟩)).pushRrl (.slot i)))
    ∧ (s.slot i = some ⟨src, tag, c, .read l true (.issued o)⟩ →
      ∃ t, exec (.fetchData (slotDtag i) .ok data) s = .next t ∧ t.slot i = none ∧ t.resp = s.resp
        ∧ t.tt = (s.freeSlot i).tt ∧ t.mb = s.mb ∧ t.es = s.es ∧ t.hport = s.hport ∧ t.fl = s.fl ∧ t.adm = s.adm
        ∧ t.meter = s.meter
        ∧ t.mport = { s.mport with
            outstanding := s.mport.outstanding.filter (· ≠ slotDtag i)
            orphaned := s.mport.orphaned.filter (· ≠ slotDtag i) }
        ∧ t.mgmt = (s.settled t.quietCondition).mgmt)
    ∧ (s.slot i = some ⟨src, tag, c, .read l true (.issued o)⟩ →
      ∃ t, exec (.fetchData (slotDtag i) .poison data) s = .next t ∧ t.slot i = none ∧ t.resp = s.resp
        ∧ t.tt = (s.freeSlot i).tt ∧ t.mb = s.mb ∧ t.es = s.es ∧ t.hport = s.hport ∧ t.fl = s.fl ∧ t.adm = s.adm
        ∧ t.meter = s.meter
        ∧ t.mport = { s.mport with
            outstanding := s.mport.outstanding.filter (· ≠ slotDtag i)
            orphaned := s.mport.orphaned.filter (· ≠ slotDtag i) }
        ∧ t.mgmt = ((s.logNotice
            ⟨.readPoison, s.mgmt.time, some src, some tag, some l, some (slotDtag i), none⟩).settled
              t.quietCondition).mgmt)

/-- A late FetchData: LATE_RESPONSE is logged, a RETURNED slot loses its orphan flag, an ORPHANED slot or entry becomes
FREE, and no other record changes. That QUIET_REACHED, where the quiet condition then holds, is logged after LATE_RESPONSE
is read by inference (log 12, DEDUCED). -/
def Obligations.LateFetchAnswerEndsOrphan : Prop :=
  ∀ (s : State) (src : Source) (tag : Tag) (c : Charge) (l : Line) (st : FetchStatus) (data : LineData),
    s.mport.up = true →
    (∀ i d r, slotDtag i ∉ s.mport.outstanding → slotDtag i ∈ s.mport.orphaned →
      (s.slot i = some ⟨src, tag, c, .read l d (.returned r true)⟩ →
        exec (.fetchData (slotDtag i) st data) s
          = .next (((s.dtagFree (slotDtag i)).logNotice
              ⟨.lateResponse, s.mgmt.time, some src, none, some l, some (slotDtag i), none⟩).setSlot i
              (some ⟨src, tag, c, .read l d (.returned r false)⟩)))
      ∧ (s.slot i = some ⟨src, tag, c, .read l d .orphaned⟩ →
        exec (.fetchData (slotDtag i) st data) s
          = .next ((((s.dtagFree (slotDtag i)).logNotice
              ⟨.lateResponse, s.mgmt.time, some src, none, some l, some (slotDtag i), none⟩).freeSlot i).checkQuiet)))
    ∧ ∀ e, entryDtag e ∉ s.mport.outstanding → entryDtag e ∈ s.mport.orphaned →
      s.entry e = some ⟨l, src, .orphaned⟩ →
        exec (.fetchData (entryDtag e) st data) s
          = .next ((((s.dtagFree (entryDtag e)).logNotice
              ⟨.lateResponse, s.mgmt.time, none, none, some l, some (entryDtag e), none⟩).setEntry e none).checkQuiet)

/-- Good data for a hint fetch serves the attached reads in list order, and a PENDING entry becomes HELD while hints are on
and the controller is RUN, else FREE; a STALE one becomes FREE. -/
def Obligations.HintFetchServesAttached : Prop :=
  ∀ (s : State) (e : EntryId) (l : Line) (by' : Source) (attached : List SlotId) (o : Option Ticks) (stale : Bool)
      (data : LineData),
    s.mport.up = true → entryDtag e ∈ s.mport.outstanding → s.WaitLaw →
    s.entry e = some ⟨l, by', if stale then .stale ⟨false, attached, o⟩ else .pending ⟨false, attached, o⟩⟩ →
    ∃ t, exec (.fetchData (entryDtag e) .ok data) s = .next t
      ∧ t.entry e = (if stale = false ∧ s.mgmt.regs.hintEnable = true ∧ s.mgmt.quiesce = .run then
          some ⟨l, by', .held data (s.mgmt.regs.hintLife * 100)⟩ else none)
      ∧ (∀ e', e' ≠ e → t.entry e' = s.entry e')
      ∧ (∀ i src tag c l' d, s.slot i = some ⟨src, tag, c, .read l' d (.attached e)⟩ →
          t.slot i = if d then none else some ⟨src, tag, c, .read l' false (.returned (.ok data) false)⟩)
      ∧ (∀ i, s.isAttached e i = false → t.slot i = s.slot i)
      ∧ t.resp = { s.resp with
          rrl := s.resp.rrl ++ (attached.filter fun i => !s.isDetached i).map RrlRef.slot }
      ∧ t.mb = s.mb ∧ t.fl = s.fl ∧ t.hport = s.hport ∧ t.adm = s.adm ∧ t.meter = s.meter ∧ t.mport.iq = s.mport.iq
      ∧ t.mport.credits = s.mport.credits ∧ t.tt.tagMap = s.tt.tagMap
      ∧ t.mgmt = (s.settled t.quietCondition).mgmt

/-- A poisoned hint fetch and one that is not answered in time send the attached reads back to the IQ tail in list order,
and log; the entry becomes FREE after poison, ORPHANED after its deadline. QUIET_REACHED, if due, stands behind HINT_POISON
(log 12, DEDUCED). -/
def Obligations.FailedHintFetchRequeuesReads : Prop :=
  ∀ (s : State) (e : EntryId) (l : Line) (by' : Source) (attached : List SlotId) (o : Option Ticks) (stale : Bool)
      (data : LineData),
    s.WaitLaw →
    s.entry e = some ⟨l, by', if stale then .stale ⟨false, attached, o⟩ else .pending ⟨false, attached, o⟩⟩ →
    (s.mport.up = true → entryDtag e ∈ s.mport.outstanding →
      ∃ t, exec (.fetchData (entryDtag e) .poison data) s = .next t ∧ t.entry e = none
        ∧ (∀ e', e' ≠ e → t.entry e' = s.entry e')
        ∧ (∀ i src tag c l' d, s.slot i = some ⟨src, tag, c, .read l' d (.attached e)⟩ →
            t.slot i = some ⟨src, tag, c, .read l' d .ready⟩)
        ∧ (∀ i, s.isAttached e i = false → t.slot i = s.slot i)
        ∧ t.mport = { s.mport with
            iq := s.mport.iq ++ attached.map IqRef.slot, outstanding := s.mport.outstanding.filter (· ≠ entryDtag e)
            orphaned := s.mport.orphaned.filter (· ≠ entryDtag e) }
        ∧ t.mb = s.mb ∧ t.fl = s.fl ∧ t.hport = s.hport ∧ t.adm = s.adm ∧ t.meter = s.meter ∧ t.resp = s.resp
        ∧ t.mgmt = ((s.logNotice
            ⟨.hintPoison, s.mgmt.time, some by', none, some l, some (entryDtag e), none⟩).settled t.quietCondition).mgmt)
    ∧ (o ≠ none →
      ∃ t, exec (.fetchDeadline e) s = .next t ∧ t.entry e = some ⟨l, by', .orphaned⟩
        ∧ (∀ e', e' ≠ e → t.entry e' = s.entry e')
        ∧ (∀ i src tag c l' d, s.slot i = some ⟨src, tag, c, .read l' d (.attached e)⟩ →
            t.slot i = some ⟨src, tag, c, .read l' d .ready⟩)
        ∧ (∀ i, s.isAttached e i = false → t.slot i = s.slot i)
        ∧ t.mport = { s.mport with
            iq := s.mport.iq ++ attached.map IqRef.slot, outstanding := s.mport.outstanding.filter (· ≠ entryDtag e)
            orphaned := s.mport.orphaned.filter (· ≠ entryDtag e) ++ [entryDtag e] }
        ∧ t.mb = s.mb ∧ t.fl = s.fl ∧ t.hport = s.hport ∧ t.adm = s.adm ∧ t.meter = s.meter ∧ t.resp = s.resp
        ∧ t.mgmt = (s.logNotice
            ⟨.hintTimeout, s.mgmt.time, some by', none, some l, some (entryDtag e), none⟩).mgmt)

/-- An answer whose dtag is of another kind's range, above 71, or neither outstanding nor orphaned is stray: it is logged
and counted, and nothing else changes. -/
def Obligations.StrayAnswerChangesNothingElse : Prop :=
  ∀ (s : State) (d : Dtag), s.mport.up = true → s.QuietLaw →
    ((48 ≤ d.toNat ∧ d.toNat < 64) ∨ 72 ≤ d.toNat ∨ (d ∉ s.mport.outstanding ∧ d ∉ s.mport.orphaned) →
      ∀ st data, exec (.fetchData d st data) s
        = .next ((s.logNotice ⟨.strayResponse, s.mgmt.time, none, none, none, some d, none⟩).bump .strayResponses))
    ∧ (d.toNat < 48 ∨ 64 ≤ d.toNat ∨ (d ∉ s.mport.outstanding ∧ d ∉ s.mport.orphaned) →
      ∀ st, exec (.storeDone d st) s
        = .next ((s.logNotice ⟨.strayResponse, s.mgmt.time, none, none, none, some d, none⟩).bump .strayResponses))

/-- StoreDone OK for a DRAINING buffer: its write slots are freed, its flushes counted down, its reads woken in list order
with the line's next buffer behind them in the IQ, and the buffer is FREE. Each flush on its list whose last buffer it was
completes if it heads its source's order and its source's record is not SEALED, in list order, and else waits on with the
count that is left, be it 0. -/
def Obligations.StoreDoneResolvesBuffer : Prop :=
  ∀ (s : State) (b : BufferId) (line : Line) (merged : Nat) (openedAt : BitVec 32) (reads flushes : List SlotId)
      (c : Content) (cause : SealCause) (o : Option Ticks),
    s.mport.up = true → bufferDtag b ∈ s.mport.outstanding → s.LineLaw → s.WaitLaw → s.FlushLaw →
    s.buffer b = some ⟨line, merged, openedAt, reads, .draining c cause flushes o⟩ →
    ∃ t, exec (.storeDone (bufferDtag b) .ok) s = .next t
      ∧ t.buffer b = none ∧ t.mb.ageOrder = s.mb.ageOrder.filter (· ≠ b)
      ∧ (∀ i, mergedInto b (s.slot i) = true → t.slot i = none) ∧ (∀ i, s.slot i = none → t.slot i = none)
      ∧ (∀ i src tag ch l m b', s.slot i = some ⟨src, tag, ch, .write l m b'⟩ → b' ≠ b → t.slot i = s.slot i)
      ∧ (∀ i src tag ch l d course, s.slot i = some ⟨src, tag, ch, .read l d course⟩ →
          t.slot i = some ⟨src, tag, ch, .read l d (if course = .waitWrite b then .ready else course)⟩)
      ∧ (∀ i src tag ch n, s.slot i = some ⟨src, tag, ch, .flush (n + 1)⟩ → (i ∈ flushes → 0 < n) →
          t.slot i = some ⟨src, tag, ch, .flush (if i ∈ flushes then n else n + 1)⟩)
      ∧ (∀ i src tag ch order, flushes = [i] → s.slot i = some ⟨src, tag, ch, .flush 1⟩ → s.flushOrder src = i :: order →
          (s.record src).isSealed = false →
          t.slot i = none ∧ t.latch src = false ∧ t.flushOrder src = order
            ∧ t.record src
              = .sealed ((s.record src).acks ++ [⟨tag, .flush, if s.latch src then .fault else .ok⟩])
            ∧ t.resp.rrl = s.resp.rrl ++ [.record src])
      ∧ (∀ next, s.nextSealed? line = some next →
          t.mport.iq = s.mport.iq ++ reads.map IqRef.slot ++ [.buffer next]
            ∧ t.buffer next = (s.buffer next).map Buffer.enqueued)
      ∧ (s.nextSealed? line = none → t.mport.iq = s.mport.iq ++ reads.map IqRef.slot)
      ∧ (∀ b', b' ≠ b → s.nextSealed? line ≠ some b' → t.buffer b' = s.buffer b')
      ∧ (flushes = [] → t.fl = s.fl ∧ t.resp = s.resp)
      ∧ (s.OrderLaw → s.FinishLaw →
          (∀ i src tag ch order, i ∈ flushes → s.slot i = some ⟨src, tag, ch, .flush 1⟩ → s.flushOrder src = i :: order →
            (s.record src).isSealed = false →
            s.completesOn flushes i = true ∧ t.slot i = none ∧ t.latch src = false ∧ t.flushOrder src = order
            ∧ t.record src
              = .sealed ((s.record src).acks ++ [⟨tag, .flush, if s.latch src then .fault else .ok⟩]))
          ∧ (∀ i src tag ch n, s.slot i = some ⟨src, tag, ch, .flush n⟩ → s.completesOn flushes i = false →
            t.slot i = some ⟨src, tag, ch, .flush (if i ∈ flushes then n - 1 else n)⟩)
          ∧ (∀ src, (∀ i ∈ flushes, s.sourceOf i = some src → s.completesOn flushes i = false) →
            t.record src = s.record src ∧ t.flushOrder src = s.flushOrder src ∧ t.latch src = s.latch src)
          ∧ t.resp.rrl = s.resp.rrl ++ s.recordsSealedBy flushes)
      ∧ t.hport = s.hport ∧ t.adm = s.adm ∧ t.es = s.es ∧ t.meter = s.meter ∧ t.resp.rq = s.resp.rq
      ∧ t.mport.credits = s.mport.credits ∧ t.tt.tagMap = s.tt.tagMap
      ∧ t.mgmt = (s.settled t.quietCondition).mgmt

/-- StoreDone FAIL is StoreDone OK after three additions: the contributors' latches are set, DRAIN_FAIL is logged and
DRAIN_FAULTS advances. -/
def Obligations.StoreDoneFailAddsFault : Prop :=
  ∀ (s : State) (b : BufferId) (line : Line) (merged : Nat) (openedAt : BitVec 32) (reads flushes : List SlotId)
      (c : Content) (cause : SealCause) (o : Option Ticks),
    s.mport.up = true → bufferDtag b ∈ s.mport.outstanding →
    s.buffer b = some ⟨line, merged, openedAt, reads, .draining c cause flushes o⟩ →
    ∃ faulty t,
      faulty = ((s.setLatches c.contributors).logNotice
        ⟨.drainFail, s.mgmt.time, none, none, some line, some (bufferDtag b), none⟩).bump .drainFaults
      ∧ (∀ src, faulty.latch src = (c.contributors.contains src || s.latch src))
      ∧ exec (.storeDone (bufferDtag b) .fail) s = .next t ∧ exec (.storeDone (bufferDtag b) .ok) faulty = .next t

/-- A late StoreDone: LATE_RESPONSE is logged, the ORPHANED buffer becomes FREE, its reads are woken with the line's next
buffer behind them, and no latch, flush or other slot changes. DRAINING leads to QUIET if the quiet condition then holds,
QUIET_REACHED behind LATE_RESPONSE (log 12, DEDUCED). -/
def Obligations.LateStoreDoneFreesBuffer : Prop :=
  ∀ (s : State) (b : BufferId) (line : Line) (merged : Nat) (openedAt : BitVec 32) (reads : List SlotId)
      (cause : SealCause) (st : StoreStatus),
    s.mport.up = true → bufferDtag b ∉ s.mport.outstanding → bufferDtag b ∈ s.mport.orphaned → s.LineLaw → s.WaitLaw →
    s.buffer b = some ⟨line, merged, openedAt, reads, .orphaned cause⟩ →
    ∃ t, exec (.storeDone (bufferDtag b) st) s = .next t
      ∧ t.buffer b = none ∧ t.mb.ageOrder = s.mb.ageOrder.filter (· ≠ b)
      ∧ (∀ i src tag ch l d, s.slot i = some ⟨src, tag, ch, .read l d (.waitWrite b)⟩ →
          t.slot i = some ⟨src, tag, ch, .read l d .ready⟩)
      ∧ (∀ i, s.isWaitingOn b i = false → t.slot i = s.slot i)
      ∧ (∀ next, s.nextSealed? line = some next →
          t.mport.iq = s.mport.iq ++ reads.map IqRef.slot ++ [.buffer next]
            ∧ t.buffer next = (s.buffer next).map Buffer.enqueued)
      ∧ (s.nextSealed? line = none → t.mport.iq = s.mport.iq ++ reads.map IqRef.slot)
      ∧ (∀ b', b' ≠ b → s.nextSealed? line ≠ some b' → t.buffer b' = s.buffer b')
      ∧ bufferDtag b ∉ t.mport.orphaned
      ∧ t.fl = s.fl ∧ t.resp = s.resp ∧ t.hport = s.hport ∧ t.adm = s.adm ∧ t.es = s.es ∧ t.meter = s.meter
      ∧ t.tt.tagMap = s.tt.tagMap ∧ t.tt.charges = s.tt.charges
      ∧ t.mgmt = ((s.logNotice
          ⟨.lateResponse, s.mgmt.time, none, none, some line, some (bufferDtag b), none⟩).settled t.quietCondition).mgmt

/-! ## The management port -/

/-- A notice is appended while the log holds fewer than 16 and else is lost, with NOTICES_LOST and LOST; nothing but the
IRQ line moves besides. -/
def Obligations.NoticeIsAppendedOrLost : Prop :=
  ∀ (s : State) (n : Notice),
    (s.mgmt.notices.length < 16 →
      s.logNotice n = { s with mgmt := { s.mgmt with
        notices := s.mgmt.notices ++ [n]
        irqLine := if s.mgmt.notices = [] then
            kindEnabled s.mgmt.regs.irqEnable n.kind || (s.mgmt.quietStatus && s.mgmt.regs.irqEnable.getLsbD 31)
          else s.mgmt.irqLine } })
    ∧ (16 ≤ s.mgmt.notices.length →
      (s.logNotice n).mgmt = { s.mgmt with lost := true, counters := (s.logNotice n).mgmt.counters }
      ∧ (s.logNotice n) = { s with mgmt := (s.logNotice n).mgmt }
      ∧ ∀ c, (s.logNotice n).counter c = if c = .noticesLost then s.counter c + 1 else s.counter c)

/-- NOTICE_POP shifts out the oldest record, with the kinds and reasons coded as R160 lists them and a kind's enable at the bit
below its code, removes the record and re-evaluates the IRQ line; on an empty log it shifts out 0 and removes nothing. -/
def Obligations.NoticePopRemovesOldest : Prop :=
  (∀ p ∈ ([(.readTimeout, 1), (.readPoison, 2), (.hintTimeout, 3), (.hintPoison, 4), (.drainTimeout, 5), (.drainFail, 6),
      (.lateResponse, 7), (.strayResponse, 8), (.excessGrantH, 9), (.excessGrantM, 10), (.ingressOverflow, 11),
      (.rejected, 12), (.throttleOn, 13), (.throttleOff, 14), (.hLinkDown, 15), (.mLinkDown, 16),
      (.quietReached, 17)] : List (NoticeKind × Nat)),
    (∀ n : Notice, n.kind = p.1 → (noticeWord n).extractLsb' 0 5 = BitVec.ofNat 5 p.2)
    ∧ ∀ enables, kindEnabled enables p.1 = enables.getLsbD (p.2 - 1))
  ∧ (∀ p ∈ ([(none, 0), (some .outOfRange, 1), (some .emptyMask, 2), (some .duplicateTag, 3)] :
      List (Option Reason × Nat)),
    ∀ n : Notice, n.reason = p.1 → (noticeWord n).extractLsb' 30 2 = BitVec.ofNat 2 p.2)
  ∧ ∀ s : State,
    (s.mgmt.notices = [] → exec .noticePop s = .next { s with mgmt := { s.mgmt with readData := 0 } })
    ∧ ∀ n rest, s.mgmt.notices = n :: rest →
      exec .noticePop s = .next { s with mgmt := { s.mgmt with
        notices := rest, readData := noticeWord n
        irqLine := (rest.head?.any fun m => kindEnabled s.mgmt.regs.irqEnable m.kind)
          || (s.mgmt.quietStatus && s.mgmt.regs.irqEnable.getLsbD 31) } }
      ∧ (noticeWord n).extractLsb' 0 5 = BitVec.ofNat 5 (kindCode n.kind)
      ∧ ((noticeWord n).getLsbD 5 = n.source.isSome ∧ (noticeWord n).getLsbD 6 = n.tag.isSome
        ∧ (noticeWord n).getLsbD 7 = n.line.isSome ∧ (noticeWord n).getLsbD 8 = n.dtag.isSome
        ∧ (noticeWord n).getLsbD 9 = n.reason.isSome)
      ∧ (noticeWord n).extractLsb' 10 4 = BitVec.ofNat 4 ((n.source.map fun x => x.val).getD 0)
      ∧ (noticeWord n).extractLsb' 14 8 = n.tag.getD 0 ∧ (noticeWord n).extractLsb' 22 8 = n.dtag.getD 0
      ∧ (noticeWord n).extractLsb' 30 2 = BitVec.ofNat 2 ((n.reason.map reasonCode).getD 0)

/-- QUIESCE from RUN: OPEN buffers are sealed with QUIESCE and queued where their line is clear, HELD entries freed, FILLING
records sealed in ascending source number, and the controller is QUIET if the quiet condition then holds and else DRAINING.
Outside RUN nothing changes. Entry to QUIET, here and at the end of every happening that may complete the quiet condition
(`settled`), sets the quiet status, logs QUIET_REACHED and re-evaluates the IRQ line. -/
def Obligations.QuiesceClosesThePart : Prop :=
  ∀ s : State,
    (s.mgmt.quiesce ≠ .run → exec .quiesce s = .next s)
    ∧ (s.mgmt.quiesce = .run →
      ∃ t, exec .quiesce s = .next t
        ∧ t.mgmt.quiesce = (if t.quietCondition = true then .quiet else .draining)
        ∧ (t.quietCondition = true → t.mgmt.quietStatus = true)
        ∧ (t.quietCondition = false → t.mgmt.quietStatus = s.mgmt.quietStatus ∧ t.mgmt.notices = s.mgmt.notices)
        ∧ (∀ b x, s.buffer b = some x → ∃ queued, t.buffer b = some (x.sealedWith .quiesce queued))
        ∧ (s.LineLaw →
          (∀ b x, s.buffer b = some x → t.buffer b = some (x.sealedWith .quiesce (s.lineClear b x.line)))
          ∧ t.mport.iq = s.mport.iq ++ s.sealsQueued fun _ => true)
        ∧ (∀ b, s.buffer b = none → t.buffer b = none) ∧ t.mb.ageOrder = s.mb.ageOrder
        ∧ (∀ e, t.entry e = if (s.entry e).any Entry.isHeld then none else s.entry e)
        ∧ (∀ src, t.record src = match s.record src with
            | .filling acks _ => .sealed acks
            | r => r)
        ∧ t.resp.rrl = s.resp.rrl ++ (sources.filter fun src => match s.record src with
            | .filling _ _ => true
            | _ => false).map RrlRef.record
        ∧ t.counter (.seals .quiesce) = s.counter (.seals .quiesce) + BitVec.ofNat 32 (s.countBuffers Buffer.isOpen)
        ∧ (s.mport.iq <+: t.mport.iq)
        ∧ t.mport = { s.mport with iq := t.mport.iq } ∧ t.resp.rq = s.resp.rq ∧ t.resp.credits = s.resp.credits
        ∧ t.tt = s.tt ∧ t.fl = s.fl ∧ t.hport = s.hport ∧ t.adm = s.adm ∧ t.meter = s.meter
        ∧ t.mgmt.regs = s.mgmt.regs
        ∧ ∃ closing, closing
              = (State.settled { s with mgmt := { s.mgmt with quiesce := .draining } } t.quietCondition)
            ∧ t.mgmt = { closing.mgmt with counters := t.mgmt.counters }
            ∧ ∀ c, c ≠ .seals .quiesce → t.counter c = closing.counter c)
    ∧ s.checkQuiet = s.settled s.quietCondition
    ∧ (∀ quiet, ¬(s.mgmt.quiesce = .draining ∧ quiet = true) → s.settled quiet = s)
    ∧ (s.mgmt.quiesce = .draining →
      (s.mgmt.notices.length < 16 →
        s.settled true = { s with mgmt := { s.mgmt with
          quiesce := .quiet, quietStatus := true
          notices := s.mgmt.notices ++ [⟨.quietReached, s.mgmt.time, none, none, none, none, none⟩]
          irqLine := (if s.mgmt.notices = [] then s.mgmt.regs.irqEnable.getLsbD 16
              else s.mgmt.notices.head?.any fun n => kindEnabled s.mgmt.regs.irqEnable n.kind)
            || s.mgmt.regs.irqEnable.getLsbD 31 } })
      ∧ (16 ≤ s.mgmt.notices.length →
        s.settled true = { s with mgmt := (s.settled true).mgmt }
        ∧ (s.settled true).mgmt = { s.mgmt with
            quiesce := .quiet, quietStatus := true, lost := true, counters := (s.settled true).mgmt.counters
            irqLine := (s.mgmt.notices.head?.any fun n => kindEnabled s.mgmt.regs.irqEnable n.kind)
              || s.mgmt.regs.irqEnable.getLsbD 31 }
        ∧ ∀ c, (s.settled true).counter c = if c = .noticesLost then s.counter c + 1 else s.counter c))

/-- CLEAR_COUNTERS sets the 22 counters to 0, CLEAR_LOST clears LOST, and RESUME from DRAINING or QUIET enters RUN, clears
the quiet status and re-evaluates the IRQ line; none changes anything else, and RESUME in RUN changes nothing. -/
def Obligations.ClearAndResumeCommands : Prop :=
  ∀ s : State,
    (∃ t, exec .clearCounters s = .next t ∧ (∀ c, t.counter c = 0)
      ∧ t = { s with mgmt := { s.mgmt with counters := t.mgmt.counters } })
    ∧ exec .clearLost s = .next { s with mgmt := { s.mgmt with lost := false } }
    ∧ (s.mgmt.quiesce = .run → exec .resume s = .next s)
    ∧ (s.mgmt.quiesce ≠ .run →
      exec .resume s = .next { s with mgmt := { s.mgmt with
        quiesce := .run, quietStatus := false
        irqLine := s.mgmt.notices.head?.any fun n => kindEnabled s.mgmt.regs.irqEnable n.kind } })

/-- A write to a plain configuration register puts the clamped field in force and changes nothing else: TOP_LINE by its two
halves, MERGE_AGE, HINT_LIFE, BUNDLE_HOLD, DEADLINE, and IRQ_ENABLE, which re-evaluates the IRQ line. A write to any
register that is read only or not listed is ignored, and so is a COMMAND code outside 1 to 6; codes 1 to 6, and a write to a
register with a row of its own, do what the row's command does (that a REGISTER_WRITE may name such a register is the
model's choice, log 13). -/
def Obligations.RegisterWriteSetsField : Prop :=
  ∀ (s : State) (data : RegData),
    exec (.topLineHi data) s
      = .next { s with mgmt := { s.mgmt with regs := { s.mgmt.regs with topLineStaged := data.extractLsb' 0 9 } } }
    ∧ (∃ t, exec (.topLineLo data) s = .next t
      ∧ t = { s with mgmt := { s.mgmt with regs := { s.mgmt.regs with topLine := t.mgmt.regs.topLine } } }
      ∧ t.mgmt.regs.topLine.toNat = min (s.mgmt.regs.topLineStaged.toNat * 2 ^ 32 + data.toNat) (2 ^ 40))
    ∧ exec (.registerWrite 3 data) s
      = .next { s with mgmt := { s.mgmt with regs := { s.mgmt.regs with
          mergeAge := max 1 (data.toNat % 2 ^ 12) } } }
    ∧ exec (.registerWrite 5 data) s
      = .next { s with mgmt := { s.mgmt with regs := { s.mgmt.regs with hintLife := max 1 (data.toNat % 2 ^ 8) } } }
    ∧ exec (.registerWrite 6 data) s
      = .next { s with mgmt := { s.mgmt with regs := { s.mgmt.regs with bundleHold := data.toNat % 2 ^ 8 } } }
    ∧ exec (.registerWrite 7 data) s
      = .next { s with mgmt := { s.mgmt with regs := { s.mgmt.regs with deadline := data.toNat % 2 ^ 16 } } }
    ∧ exec (.irqEnable data) s
      = .next { s with mgmt := { s.mgmt with
          regs := { s.mgmt.regs with irqEnable := data &&& 0x8001FFFF#32 }
          irqLine := (s.mgmt.notices.head?.any fun n => kindEnabled (data &&& 0x8001FFFF#32) n.kind)
            || (s.mgmt.quietStatus && data.getLsbD 31) } }
    ∧ (∀ number : BitVec 8, 12 ≤ number.toNat → (number.toNat < 16 ∨ 32 ≤ number.toNat) →
      exec (.registerWrite number data) s = .next s)
    ∧ (∀ p ∈ ([(0, .topLineLo data), (1, .topLineHi data), (2, .mergeEnable data), (4, .hintEnable data),
        (8, .meterSample data), (9, .meterWindow data), (10, .irqEnable data)] : List (BitVec 8 × Instr)),
      exec (.registerWrite p.1 data) s = exec p.2 s)
    ∧ (∀ src : Source, exec (.registerWrite (BitVec.ofNat 8 (16 + src.val)) data) s = exec (.meterConf src data) s)
    ∧ (∀ p ∈ ([(1, .clearCounters), (2, .clearLost), (3, .quiesce), (4, .resume), (5, .hLinkReset),
        (6, .mLinkReset)] : List (Nat × Instr)),
      data.toNat % 2 ^ 8 = p.1 → exec (.registerWrite 11 data) s = exec p.2 s)
    ∧ (data.toNat % 2 ^ 8 = 0 ∨ 6 < data.toNat % 2 ^ 8 → exec (.registerWrite 11 data) s = .next s)

/-- A write transaction on the four wires, 8 number bits, the choice 0 and 32 data bits, each most significant first,
spells the command of its register, and a write cut short spells none; and the command's effect is that of the write to
the register window. A read spells NOTICE_POP for number 43; that a read of any other register spells no command is the
model's choice (log 14). -/
def Obligations.TransactionSpellsRegisterWrite : Prop :=
  ∀ (number : BitVec 8) (data : RegData),
    decodeTransaction ((List.ofFn fun k : Fin 8 => number.getMsbD k) ++ false :: List.ofFn fun k : Fin 32 => data.getMsbD k)
      = some (writeCommandOf number data)
    ∧ (∀ p ∈ ([(0, .topLineLo data), (1, .topLineHi data), (2, .mergeEnable data), (4, .hintEnable data),
        (8, .meterSample data), (9, .meterWindow data), (10, .irqEnable data)] : List (BitVec 8 × Instr)),
      writeCommandOf p.1 data = p.2)
    ∧ (∀ src : Source, writeCommandOf (BitVec.ofNat 8 (16 + src.val)) data = .meterConf src data)
    ∧ (∀ p ∈ ([(1, .clearCounters), (2, .clearLost), (3, .quiesce), (4, .resume), (5, .hLinkReset),
        (6, .mLinkReset)] : List (Nat × Instr)), data.toNat % 2 ^ 8 = p.1 → writeCommandOf 11 data = p.2)
    ∧ (number ∈ ([3, 5, 6, 7] : List (BitVec 8)) → writeCommandOf number data = .registerWrite number data)
    ∧ (∀ bits : List Bool, bits.length < 32 →
      decodeTransaction ((List.ofFn fun k : Fin 8 => number.getMsbD k) ++ false :: bits) = none)
    ∧ (∀ bits : List Bool, decodeTransaction ((List.ofFn fun k : Fin 8 => number.getMsbD k) ++ true :: bits)
      = if number = 43 then some .noticePop else none)
    ∧ ∀ s : State, exec (writeCommandOf number data) s = .next (s.writeRegister number data)

/-- MERGE_ENABLE turned off seals every OPEN buffer with DISABLED, counts the seals and queues each buffer whose line is clear,
in ascending buffer number; turned on, or off while it is off, it changes no buffer. -/
def Obligations.MergeEnableSealsWhenOff : Prop :=
  ∀ (s : State) (data : RegData),
    (data.getLsbD 0 = true →
      exec (.mergeEnable data) s
        = .next { s with mgmt := { s.mgmt with regs := { s.mgmt.regs with mergeEnable := true } } })
    ∧ (data.getLsbD 0 = false → s.mgmt.regs.mergeEnable = false → exec (.mergeEnable data) s = .next s)
    ∧ (data.getLsbD 0 = false → s.mgmt.regs.mergeEnable = true →
      ∃ t, exec (.mergeEnable data) s = .next t
        ∧ t.mgmt.regs = { s.mgmt.regs with mergeEnable := false }
        ∧ (∀ b x, s.buffer b = some x → ∃ queued, t.buffer b = some (x.sealedWith .disabled queued))
        ∧ (s.LineLaw →
          (∀ b x, s.buffer b = some x → t.buffer b = some (x.sealedWith .disabled (s.lineClear b x.line)))
          ∧ t.mport.iq = s.mport.iq ++ s.sealsQueued fun _ => true)
        ∧ (∀ b, s.buffer b = none → t.buffer b = none) ∧ t.mb.ageOrder = s.mb.ageOrder
        ∧ (∀ c, t.counter c = if c = .seals .disabled then
            s.counter c + BitVec.ofNat 32 (s.countBuffers Buffer.isOpen) else s.counter c)
        ∧ (s.mport.iq <+: t.mport.iq) ∧ t.mport = { s.mport with iq := t.mport.iq }
        ∧ t.mgmt = { s.mgmt with regs := t.mgmt.regs, counters := t.mgmt.counters }
        ∧ t.tt = s.tt ∧ t.fl = s.fl ∧ t.es = s.es ∧ t.hport = s.hport ∧ t.adm = s.adm ∧ t.meter = s.meter
        ∧ t.resp = s.resp)

/-- HINT_ENABLE turned off frees every HELD entry and no other, and DRAINING then leads to QUIET if the quiet condition holds;
turned on, or off while it is off, it changes no entry. -/
def Obligations.HintEnableFreesHeldWhenOff : Prop :=
  ∀ (s : State) (data : RegData),
    (data.getLsbD 0 = true →
      exec (.hintEnable data) s
        = .next { s with mgmt := { s.mgmt with regs := { s.mgmt.regs with hintEnable := true } } })
    ∧ (data.getLsbD 0 = false → s.mgmt.regs.hintEnable = false → exec (.hintEnable data) s = .next s)
    ∧ (data.getLsbD 0 = false → s.mgmt.regs.hintEnable = true →
      ∃ t, exec (.hintEnable data) s = .next t
        ∧ t.mgmt.regs = { s.mgmt.regs with hintEnable := false }
        ∧ (∀ e, t.entry e = if (s.entry e).any Entry.isHeld then none else s.entry e)
        ∧ t.mgmt = (State.settled { s with mgmt := { s.mgmt with regs := { s.mgmt.regs with hintEnable := false } } }
            t.quietCondition).mgmt
        ∧ (s.mgmt.quiesce = .draining → t.mgmt.quiesce = if t.quietCondition = true then .quiet else .draining)
        ∧ t.tt = s.tt ∧ t.mb = s.mb ∧ t.fl = s.fl ∧ t.hport = s.hport ∧ t.adm = s.adm ∧ t.mport = s.mport
        ∧ t.resp = s.resp ∧ t.meter = s.meter)

/-- A write to METER_SAMPLE or METER_WINDOW puts the clamped value in force and restarts the window for all sources
without judgement: no accumulator and no sample is left, the sample timer starts again, a pending configuration comes into
force and makes an OFF source CALM, and no other state or streak changes. -/
def Obligations.MeterTimingWriteRestartsWindow : Prop :=
  ∀ (s : State) (data : RegData), ∃ t u,
    exec (.meterSample data) s = .next t ∧ exec (.meterWindow data) s = .next u
    ∧ t = { s with meter := t.meter, mgmt := { s.mgmt with regs := { s.mgmt.regs with
        meterSample := max 1 (data.toNat % 2 ^ 8) } } }
    ∧ u = { s with meter := u.meter, mgmt := { s.mgmt with regs := { s.mgmt.regs with
        meterWindow := max 16 (min (data.toNat % 2 ^ 13) 4096) } } }
    ∧ t.meter.sampleTimer = max 1 (data.toNat % 2 ^ 8) * 10 ∧ u.meter.sampleTimer = s.mgmt.regs.meterSample * 10
    ∧ t.meter.sampleCount = 0 ∧ u.meter.sampleCount = 0
    ∧ ∀ src, t.meterOf src = u.meterOf src
      ∧ (t.meterOf src).accumulator = 0 ∧ (t.meterOf src).waiting = none
      ∧ (t.meterOf src).conf = (s.meterOf src).waiting.getD (s.meterOf src).conf
      ∧ (t.meterOf src).state
        = (if (s.meterOf src).state = .off ∧ (s.meterOf src).waiting ≠ none then .calm else (s.meterOf src).state)
      ∧ (t.meterOf src).streak
        = (if (s.meterOf src).state = .off ∧ (s.meterOf src).waiting ≠ none then 0 else (s.meterOf src).streak)

/-- A write of a meter configuration: an enabling one waits for the next window start and changes nothing else; a disabled
one is in force at once, makes the source OFF and logs THROTTLE_OFF if the source was throttled. -/
def Obligations.MeterConfWaitsOrDisables : Prop :=
  ∀ (s : State) (src : Source) (data : RegData) (conf : MeterConf),
    conf = ⟨data.getLsbD 31, max 1 (min (data.toNat / 2 ^ 24 % 2 ^ 6) 48), min (data.toNat / 2 ^ 16 % 2 ^ 6) 48,
      max 1 (data.toNat / 2 ^ 12 % 2 ^ 4), max 1 (data.toNat / 2 ^ 8 % 2 ^ 4), max 1 (min (data.toNat % 2 ^ 6) 48)⟩ →
    (conf.enabled = true ∧ conf.floor ≤ conf.ceiling →
      exec (.meterConf src data) s = .next (s.setMeter src { s.meterOf src with waiting := some conf }))
    ∧ (conf.enabled = false ∨ conf.ceiling < conf.floor →
      ((s.meterOf src).state = .throttled ∨ (s.meterOf src).state = .cooling →
        exec (.meterConf src data) s = .next ((s.setMeter src ⟨conf, none, .off, 0, 0⟩).logNotice
          ⟨.throttleOff, s.mgmt.time, some src, none, none, none, none⟩))
      ∧ ((s.meterOf src).state ≠ .throttled ∧ (s.meterOf src).state ≠ .cooling →
        exec (.meterConf src data) s = .next (s.setMeter src ⟨conf, none, .off, 0, 0⟩)))

/-- What a read of the register window returns: the values in force (of a meter its configuration in force, not a pending
one), the status fields, the oldest notice, 0 where the log is empty, and the counters, at the places the table gives; a
write-only register and a number outside the table read 0. -/
def Obligations.RegisterReadShowsState : Prop :=
  ∀ s : State, s.ChargesLaw → s.LimitLaw →
    (s.readRegister 0 = s.mgmt.regs.topLine.extractLsb' 0 32
      ∧ s.readRegister 1 = (s.mgmt.regs.topLine.extractLsb' 32 9).setWidth 32
      ∧ s.readRegister 2 = (if s.mgmt.regs.mergeEnable then 1 else 0)
      ∧ s.readRegister 3 = BitVec.ofNat 32 s.mgmt.regs.mergeAge
      ∧ s.readRegister 4 = (if s.mgmt.regs.hintEnable then 1 else 0)
      ∧ s.readRegister 5 = BitVec.ofNat 32 s.mgmt.regs.hintLife
      ∧ s.readRegister 6 = BitVec.ofNat 32 s.mgmt.regs.bundleHold
      ∧ s.readRegister 7 = BitVec.ofNat 32 s.mgmt.regs.deadline
      ∧ s.readRegister 8 = BitVec.ofNat 32 s.mgmt.regs.meterSample
      ∧ s.readRegister 9 = BitVec.ofNat 32 s.mgmt.regs.meterWindow
      ∧ s.readRegister 10 = s.mgmt.regs.irqEnable ∧ s.readRegister 11 = 0)
    ∧ ((s.readRegister 32).getLsbD 0 = s.hport.up ∧ (s.readRegister 32).getLsbD 1 = s.mport.up
      ∧ (s.readRegister 32).extractLsb' 4 2 = (match s.mgmt.quiesce with
          | .run => 0
          | .draining => 1
          | .quiet => 2)
      ∧ (s.readRegister 32).extractLsb' 2 2 = 0 ∧ (s.readRegister 32).extractLsb' 6 2 = 0
      ∧ (s.readRegister 32).extractLsb' 9 23 = 0
      ∧ (s.readRegister 32).getLsbD 8 = s.mgmt.quietStatus)
    ∧ ((s.readRegister 33).extractLsb' 0 6 = BitVec.ofNat 6 (38 - s.tt.charges.common)
      ∧ (s.readRegister 33).extractLsb' 8 3 = BitVec.ofNat 3 (4 - s.tt.charges.read)
      ∧ (s.readRegister 33).extractLsb' 12 3 = BitVec.ofNat 3 (4 - s.tt.charges.write)
      ∧ (s.readRegister 33).extractLsb' 16 2 = BitVec.ofNat 2 (2 - s.tt.charges.flush)
      ∧ (s.readRegister 33).extractLsb' 6 2 = 0 ∧ (s.readRegister 33).getLsbD 11 = false
      ∧ (s.readRegister 33).getLsbD 15 = false ∧ (s.readRegister 33).extractLsb' 18 14 = 0)
    ∧ ((s.readRegister 34).extractLsb' 0 6 = BitVec.ofNat 6 s.mport.credits
      ∧ (s.readRegister 34).extractLsb' 8 6 = BitVec.ofNat 6 s.resp.credits
      ∧ (s.readRegister 34).extractLsb' 6 2 = 0 ∧ (s.readRegister 34).extractLsb' 14 18 = 0)
    ∧ ((s.readRegister 35).extractLsb' 0 5 = BitVec.ofNat 5 s.mgmt.notices.length
      ∧ (s.readRegister 35).getLsbD 8 = s.mgmt.lost
      ∧ (s.readRegister 35).extractLsb' 5 3 = 0 ∧ (s.readRegister 35).extractLsb' 9 23 = 0)
    ∧ (∀ src : Source, ∀ word : BitVec 32, word = s.readRegister (BitVec.ofNat 8 (16 + src.val)) →
      word.getLsbD 31 = (s.meterOf src).conf.enabled ∧ word.getLsbD 30 = false
      ∧ word.extractLsb' 24 6 = BitVec.ofNat 6 (s.meterOf src).conf.ceiling ∧ word.extractLsb' 22 2 = 0
      ∧ word.extractLsb' 16 6 = BitVec.ofNat 6 (s.meterOf src).conf.floor
      ∧ word.extractLsb' 12 4 = BitVec.ofNat 4 (s.meterOf src).conf.enter
      ∧ word.extractLsb' 8 4 = BitVec.ofNat 4 (s.meterOf src).conf.exit ∧ word.extractLsb' 6 2 = 0
      ∧ word.extractLsb' 0 6 = BitVec.ofNat 6 (s.meterOf src).conf.limit)
    ∧ (s.mgmt.notices = [] →
      s.readRegister 40 = 0 ∧ s.readRegister 41 = 0 ∧ s.readRegister 42 = 0 ∧ s.readRegister 43 = 0)
    ∧ (∀ n rest, s.mgmt.notices = n :: rest →
      s.readRegister 40 = n.time ∧ s.readRegister 41 = (n.line.getD 0).extractLsb' 0 32
      ∧ s.readRegister 42 = ((n.line.getD 0).extractLsb' 32 8).setWidth 32 ∧ s.readRegister 43 = noticeWord n)
    ∧ (∀ c, s.readRegister (BitVec.ofNat 8 (64 + (counterIndex c).val)) = s.counter c)
    ∧ (∀ p ∈ ([(64, .readsAdmitted), (65, .writesAdmitted), (66, .flushesAdmitted), (67, .hintsAccepted),
        (68, .hintsDropped), (69, .hintHits), (70, .retries), (71, .rejects), (72, .seals .full), (73, .seals .count),
        (74, .seals .age), (75, .seals .pressure), (76, .seals .read), (77, .seals .flush), (78, .seals .quiesce),
        (79, .seals .disabled), (80, .storesSent), (81, .fetchesSent), (82, .drainFaults), (83, .readTimeouts),
        (84, .strayResponses), (85, .noticesLost)] : List (BitVec 8 × Counter)), s.readRegister p.1 = s.counter p.2)
    ∧ (∀ number : BitVec 8,
      (12 ≤ number.toNat ∧ number.toNat < 16) ∨ (38 ≤ number.toNat ∧ number.toNat < 40)
        ∨ (44 ≤ number.toNat ∧ number.toNat < 64) ∨ 86 ≤ number.toNat → s.readRegister number = 0)
    ∧ ∀ (k : Fin 8) (code : MeterState → BitVec 3),
      code = (fun
        | .off => 0
        | .calm => 1
        | .warm => 2
        | .throttled => 3
        | .cooling => 4) →
      (s.readRegister 36).extractLsb' (4 * k.val) 3 = code (s.meterOf ⟨k.val, by omega⟩).state
      ∧ (s.readRegister 37).extractLsb' (4 * k.val) 3 = code (s.meterOf ⟨k.val + 8, by omega⟩).state
      ∧ (s.readRegister 36).getLsbD (4 * k.val + 3) = false ∧ (s.readRegister 37).getLsbD (4 * k.val + 3) = false

/-! ## Timers -/

/-- The deadline of an ISSUED read runs out: the dtag is orphaned, READ_TIMEOUT is logged and counted, and the slot is
RETURNED with TIMEOUT and joins the RRL; a detached slot is ORPHANED. That a slot without a running deadline is left as it
is, is read by inference (log 5, DEDUCED). -/
def Obligations.ReadDeadlineReturnsTimeout : Prop :=
  ∀ (s : State) (i : SlotId),
    (∀ src tag c l d left, s.slot i = some ⟨src, tag, c, .read l d (.issued (some left))⟩ →
      exec (.readDeadline i) s = .next
        (let logged := ((s.dtagOrphan (slotDtag i)).logNotice
          ⟨.readTimeout, s.mgmt.time, some src, some tag, some l, some (slotDtag i), none⟩).bump .readTimeouts
         if d then logged.setSlot i (some ⟨src, tag, c, .read l true .orphaned⟩)
         else (logged.setSlot i (some ⟨src, tag, c, .read l false (.returned .timeout true)⟩)).pushRrl (.slot i)))
    ∧ ((∀ src tag c l d left, s.slot i ≠ some ⟨src, tag, c, .read l d (.issued (some left))⟩) →
      exec (.readDeadline i) s = .next s)

/-- The drain deadline of a DRAINING buffer runs out: the buffer is ORPHANED with its reads still waiting, its dtag is
orphaned, its contributors' latches are set, its write slots are freed, its flushes are counted down and complete as at its
resolution (a contributor's with FAULT), and DRAIN_TIMEOUT and DRAIN_FAULTS tell of it. -/
def Obligations.DrainDeadlineOrphansBuffer : Prop :=
  ∀ (s : State) (b : BufferId) (line : Line) (merged : Nat) (openedAt : BitVec 32) (reads flushes : List SlotId)
      (c : Content) (cause : SealCause) (left : Ticks),
    s.FlushLaw → s.buffer b = some ⟨line, merged, openedAt, reads, .draining c cause flushes (some left)⟩ →
    ∃ t, exec (.drainDeadline b) s = .next t
      ∧ t.buffer b = some ⟨line, 0, openedAt, reads, .orphaned cause⟩ ∧ (∀ b', b' ≠ b → t.buffer b' = s.buffer b')
      ∧ t.mb.ageOrder = s.mb.ageOrder
      ∧ bufferDtag b ∉ t.mport.outstanding ∧ bufferDtag b ∈ t.mport.orphaned ∧ t.mport.iq = s.mport.iq
      ∧ (∀ src ∈ c.contributors, s.flushOrder src = [] → t.latch src = true)
      ∧ (∀ i, mergedInto b (s.slot i) = true → t.slot i = none) ∧ (∀ i, s.slot i = none → t.slot i = none)
      ∧ (∀ i src tag ch l m b', s.slot i = some ⟨src, tag, ch, .write l m b'⟩ → b' ≠ b → t.slot i = s.slot i)
      ∧ (∀ i src tag ch l d course, s.slot i = some ⟨src, tag, ch, .read l d course⟩ → t.slot i = s.slot i)
      ∧ (∀ i src tag ch n, s.slot i = some ⟨src, tag, ch, .flush (n + 1)⟩ → (i ∈ flushes → 0 < n) →
          t.slot i = some ⟨src, tag, ch, .flush (if i ∈ flushes then n else n + 1)⟩)
      ∧ (∀ i src tag ch order, flushes = [i] → s.slot i = some ⟨src, tag, ch, .flush 1⟩ → s.flushOrder src = i :: order →
          (s.record src).isSealed = false →
          t.slot i = none ∧ t.latch src = false ∧ t.flushOrder src = order
            ∧ t.record src = .sealed ((s.record src).acks
                ++ [⟨tag, .flush, if c.contributors.contains src || s.latch src then .fault else .ok⟩]))
      ∧ (s.OrderLaw → s.FinishLaw →
          (∀ i src tag ch order, i ∈ flushes → s.slot i = some ⟨src, tag, ch, .flush 1⟩ → s.flushOrder src = i :: order →
            (s.record src).isSealed = false →
            s.completesOn flushes i = true ∧ t.slot i = none ∧ t.latch src = false ∧ t.flushOrder src = order
            ∧ t.record src = .sealed ((s.record src).acks
                ++ [⟨tag, .flush, if c.contributors.contains src || s.latch src then .fault else .ok⟩]))
          ∧ (∀ i src tag ch n, s.slot i = some ⟨src, tag, ch, .flush n⟩ → s.completesOn flushes i = false →
            t.slot i = some ⟨src, tag, ch, .flush (if i ∈ flushes then n - 1 else n)⟩)
          ∧ (∀ src, (∀ i ∈ flushes, s.sourceOf i = some src → s.completesOn flushes i = false) →
            t.record src = s.record src ∧ t.flushOrder src = s.flushOrder src
            ∧ t.latch src = (c.contributors.contains src || s.latch src))
          ∧ t.resp.rrl = s.resp.rrl ++ s.recordsSealedBy flushes)
      ∧ t.mgmt = (((s.logNotice
          ⟨.drainTimeout, s.mgmt.time, none, none, some line, some (bufferDtag b), none⟩).bump .drainFaults).mgmt)
      ∧ t.hport = s.hport ∧ t.adm = s.adm ∧ t.es = s.es ∧ t.meter = s.meter ∧ t.resp.rq = s.resp.rq
      ∧ t.tt.tagMap = s.tt.tagMap

/-- The age timer of an OPEN buffer seals it with AGE, counts the seal, and puts it at the IQ tail if its line is clear.
That a buffer that is not OPEN is left as it is, is read by inference (log 5, DEDUCED). -/
def Obligations.AgeTimerSealsBuffer : Prop :=
  ∀ (s : State) (b : BufferId),
    (∀ line merged openedAt reads c age, s.buffer b = some ⟨line, merged, openedAt, reads, .opened c age⟩ →
      (s.lineClear b line = true →
        exec (.ageTimer b) s
          = .next (((s.setBuffer b (some ⟨line, merged, openedAt, reads, .sealed c .age true []⟩)).bump
              (.seals .age)).pushIq (.buffer b)))
      ∧ (s.lineClear b line = false →
        exec (.ageTimer b) s
          = .next ((s.setBuffer b (some ⟨line, merged, openedAt, reads, .sealed c .age false []⟩)).bump (.seals .age))))
    ∧ ((∀ x ∈ s.buffer b, x.isOpen = false) → exec (.ageTimer b) s = .next s)

/-- The life timer of a HELD entry frees it, and the hold timer of a FILLING record seals it and puts it in the RRL. That an
entry or record with no such timer is left as it is, is read by inference (log 5, DEDUCED). -/
def Obligations.LifeAndHoldTimersEnd : Prop :=
  ∀ s : State,
    (∀ e line by' data left, s.entry e = some ⟨line, by', .held data left⟩ →
      exec (.lifeTimer e) s = .next (s.setEntry e none).checkQuiet)
    ∧ (∀ e, s.QuietLaw → (∀ x ∈ s.entry e, x.isHeld = false) → exec (.lifeTimer e) s = .next s)
    ∧ (∀ src acks left, s.record src = .filling acks left →
      exec (.holdTimer src) s = .next ((s.setRecord src (.sealed acks)).pushRrl (.record src)))
    ∧ ∀ src, (∀ acks left, s.record src ≠ .filling acks left) → exec (.holdTimer src) s = .next s

/-- A sample below the window, taken when the sample timer has run out: every source that is not OFF adds its holding
count, the timer starts again, the sample count rises, and nothing else changes. The command WINDOW_CLOSE is the sample
that fills the window, and out of place it changes nothing: the model's choice (log 6). While the timer still runs, as
after a write that restarts it (R146), no sample is taken: that the command then changes nothing is read by inference
(log 5, DEDUCED). -/
def Obligations.SampleAddsHolding : Prop :=
  ∀ s : State,
    (s.meter.sampleTimer = 0 → s.meter.sampleCount + 1 < s.mgmt.regs.meterWindow →
      exec .windowClose s = .next s ∧ ∃ t, exec .sample s = .next t ∧ t = { s with meter := t.meter }
        ∧ t.meter.sampleTimer = s.mgmt.regs.meterSample * 10 ∧ t.meter.sampleCount = s.meter.sampleCount + 1
        ∧ ∀ src, t.meterOf src = { s.meterOf src with
            accumulator := (s.meterOf src).accumulator + if (s.meterOf src).state = .off then 0 else s.holdingOf src })
    ∧ (s.meter.sampleTimer = 0 → s.mgmt.regs.meterWindow ≤ s.meter.sampleCount + 1 →
      ∃ t, exec .windowClose s = .next t ∧ exec .sample s = .next t ∧ t.meter.sampleCount = 0)
    ∧ (0 < s.meter.sampleTimer → exec .sample s = .next s ∧ exec .windowClose s = .next s)
    ∧ (∀ data, ∃ t, exec (.meterSample data) s = .next t ∧ exec .sample t = .next t ∧ exec .windowClose t = .next t)
    ∧ (s.RangeLaw → ∀ data,
      ∃ t, exec (.meterWindow data) s = .next t ∧ exec .sample t = .next t ∧ exec .windowClose t = .next t)

/-- The sample that fills the window, taken when the sample timer has run out, closes it: every source that is not OFF is
judged with this sample in its accumulator and moves as R139's table gives, THROTTLE_ON and THROTTLE_OFF are logged in
ascending source number as far as the log has room (each one more sets LOST and advances NOTICES_LOST, and no other counter
moves), and then a new window starts with pending configurations in force. -/
def Obligations.WindowCloseJudgesSources : Prop :=
  ∀ s : State, s.meter.sampleTimer = 0 → s.mgmt.regs.meterWindow ≤ s.meter.sampleCount + 1 →
    ∃ t, exec .sample s = .next t
      ∧ t = { s with meter := t.meter, mgmt := t.mgmt } ∧ t.meter.sampleCount = 0
      ∧ t.meter.sampleTimer = s.mgmt.regs.meterSample * 10
      ∧ t.mgmt = { s.mgmt with
          notices := t.mgmt.notices, lost := t.mgmt.lost, counters := t.mgmt.counters, irqLine := t.mgmt.irqLine }
      ∧ (∃ raised, raised = (sources.filterMap (β := Notice) fun src =>
            match (s.meterOf src).state, (t.meterOf src).state with
            | .calm, .throttled => some ⟨.throttleOn, s.mgmt.time, some src, none, none, none, none⟩
            | .warm, .throttled => some ⟨.throttleOn, s.mgmt.time, some src, none, none, none, none⟩
            | .throttled, .calm => some ⟨.throttleOff, s.mgmt.time, some src, none, none, none, none⟩
            | .cooling, .calm => some ⟨.throttleOff, s.mgmt.time, some src, none, none, none, none⟩
            | _, _ => none)
          ∧ (s.mgmt.notices.length ≤ 16 → t.mgmt.notices = (s.mgmt.notices ++ raised).take 16)
          ∧ t.mgmt.lost = (s.mgmt.lost || decide (16 - s.mgmt.notices.length < raised.length))
          ∧ (∀ c, t.counter c = if c = .noticesLost then
              s.counter c + BitVec.ofNat 32 (raised.length - (16 - s.mgmt.notices.length)) else s.counter c)
          ∧ t.mgmt.irqLine = if s.mgmt.notices = [] ∧ raised ≠ [] then
              (t.mgmt.notices.head?.any fun n => kindEnabled s.mgmt.regs.irqEnable n.kind)
                || (s.mgmt.quietStatus && s.mgmt.regs.irqEnable.getLsbD 31)
            else s.mgmt.irqLine)
      ∧ ∀ src : Source,
        let m := s.meterOf src
        let conf := m.conf
        let total := m.accumulator + s.holdingOf src
        let hot := conf.ceiling * s.mgmt.regs.meterWindow < total
        let cool := ¬hot ∧ total < conf.floor * s.mgmt.regs.meterWindow
        let new := t.meterOf src
        new.accumulator = 0 ∧ new.waiting = none
        ∧ new.conf = m.waiting.getD conf
        ∧ (m.state = .off → new.state = (if m.waiting = none then .off else .calm)
          ∧ new.streak = if m.waiting = none then m.streak else 0)
        ∧ (m.state = .calm → hot → conf.enter = 1 → new.state = .throttled ∧ new.streak = 0)
        ∧ (m.state = .calm → hot → conf.enter ≠ 1 → new.state = .warm ∧ new.streak = 1)
        ∧ (m.state = .calm → ¬hot → new.state = .calm ∧ new.streak = 0)
        ∧ (m.state = .warm → hot → conf.enter ≤ m.streak + 1 → new.state = .throttled ∧ new.streak = 0)
        ∧ (m.state = .warm → hot → m.streak + 1 < conf.enter → new.state = .warm ∧ new.streak = m.streak + 1)
        ∧ (m.state = .warm → ¬hot → new.state = .calm ∧ new.streak = 0)
        ∧ (m.state = .throttled → cool → conf.exit = 1 → new.state = .calm ∧ new.streak = 0)
        ∧ (m.state = .throttled → cool → conf.exit ≠ 1 → new.state = .cooling ∧ new.streak = 1)
        ∧ (m.state = .throttled → ¬cool → new.state = .throttled ∧ new.streak = 0)
        ∧ (m.state = .cooling → cool → conf.exit ≤ m.streak + 1 → new.state = .calm ∧ new.streak = 0)
        ∧ (m.state = .cooling → cool → m.streak + 1 < conf.exit → new.state = .cooling ∧ new.streak = m.streak + 1)
        ∧ (m.state = .cooling → ¬cool → new.state = .throttled ∧ new.streak = 0)

/-! ## Admission -/

/-- What every decision that serves a head of the read, write or flush lane leaves besides the head's own effect: the head
is gone from its lane, one Release names the lane, and the lane is the last served. -/
def Obligations.ServedHeadLeavesLane : Prop :=
  ∀ (s : State) (lane : Lane) (sv : Service), s.mgmt.quiesce = .run → s.pick = some (lane, sv) →
    ∃ t, exec .decision s = .next t
      ∧ t.adm.lastServed = lane
      ∧ t.hport = { s.hport with
          readLane := s.hport.readLane.drop (if lane = .read then 1 else 0)
          writeLane := s.hport.writeLane.drop (if lane = .write then 1 else 0)
          flushLane := s.hport.flushLane.drop (if lane = .flush then 1 else 0)
          readCredits := s.hport.readCredits + (if lane = .read then 1 else 0)
          writeCredits := s.hport.writeCredits + (if lane = .write then 1 else 0)
          flushCredits := s.hport.flushCredits + (if lane = .flush then 1 else 0)
          sent := s.hport.sent ++ [.release lane] }
      ∧ t.meter = s.meter ∧ t.mgmt.regs = s.mgmt.regs ∧ t.mgmt.quiesce = s.mgmt.quiesce ∧ t.mport.up = s.mport.up
      ∧ t.mport.credits = s.mport.credits ∧ t.pending = s.pending

/-- The head served is the first servable one in the order read, write, flush, beginning after the last-served lane. Each head
is judged afresh: held by the arrival-order guard it waits; failing a check it is rejected for the first one it fails; over
its source's limit it is retried (a Reject or Retry waits until it can be answered); a write that cannot be placed wants a
buffer, and one whose source's record is SEALED waits; else the head is admitted to the lowest FREE slot if one can be
charged, and waits if not. No decision is taken unless the controller is RUN, and one that finds no servable head and no
write that wants a buffer changes nothing. -/
def Obligations.RoundRobinServesFirstServable : Prop :=
  (∀ (s : State) (lane : Lane) (sv : Service),
    s.pick = some (lane, sv) ↔
      s.judge lane = .serves sv
        ∧ match s.adm.lastServed, lane with
          | .read, .write => True
          | .read, .flush => (s.judge .write).service = none
          | .read, .read => (s.judge .write).service = none ∧ (s.judge .flush).service = none
          | .write, .flush => True
          | .write, .read => (s.judge .flush).service = none
          | .write, .write => (s.judge .flush).service = none ∧ (s.judge .read).service = none
          | .flush, .read => True
          | .flush, .write => (s.judge .read).service = none
          | .flush, .flush => (s.judge .read).service = none ∧ (s.judge .write).service = none)
  ∧ ∀ s : State,
    (∀ stamp src tag l rest w, s.hport.readLane = .read stamp src tag l :: rest → w ∈ s.hport.writeLane →
      w.stamp < stamp → w.line = l → s.judge .read = .waits)
    ∧ (∀ w rest stamp src tag, s.hport.writeLane = w :: rest → .read stamp src tag w.line ∈ s.hport.readLane →
      stamp < w.stamp → s.judge .write = .waits)
    ∧ (∀ f rest w, s.hport.flushLane = f :: rest → w ∈ s.hport.writeLane → w.stamp < f.stamp → w.source = f.source →
      s.judge .flush = .waits)
    ∧ (s.mgmt.quiesce ≠ .run → exec .decision s = .next s)
    ∧ (s.mgmt.quiesce = .run → s.pick = none → s.judge .write ≠ .wantsBuffer → exec .decision s = .next s)
    ∧ (s.hport.readLane = [] → s.judge .read = .noHead) ∧ (s.hport.writeLane = [] → s.judge .write = .noHead)
    ∧ (s.hport.flushLane = [] → s.judge .flush = .noHead)
    ∧ ∀ answer : Service → Judgement,
      answer = (fun sv => if s.resp.rq.length < 32 ∧ s.resp.rrl = [] then .serves sv else .waits) →
      (∀ stamp src tag l rest, s.hport.readLane = .read stamp src tag l :: rest →
        (∀ w ∈ s.hport.writeLane, w.stamp < stamp → w.line ≠ l) →
        (s.mgmt.regs.topLine.toNat ≤ l.toNat → s.judge .read = answer (.reject .outOfRange))
        ∧ (l.toNat < s.mgmt.regs.topLine.toNat →
          ((src, tag) ∈ s.tt.tagMap → s.judge .read = answer (.reject .duplicateTag))
          ∧ ((src, tag) ∉ s.tt.tagMap →
            (s.overLimit src → s.judge .read = answer .retry)
            ∧ (¬s.overLimit src → s.slotJudged s.tt.charges.read 4 (s.judge .read)))))
      ∧ (∀ w rest, s.hport.writeLane = w :: rest →
        (∀ stamp src tag, .read stamp src tag w.line ∈ s.hport.readLane → w.stamp ≤ stamp) →
        (s.mgmt.regs.topLine.toNat ≤ w.line.toNat → s.judge .write = answer (.reject .outOfRange))
        ∧ (w.line.toNat < s.mgmt.regs.topLine.toNat →
          (w.masked = true → (∀ k, tget w.payload k = none) → s.judge .write = answer (.reject .emptyMask))
          ∧ (w.masked = false ∨ (∃ k, tget w.payload k ≠ none) →
            ((w.source, w.tag) ∈ s.tt.tagMap → s.judge .write = answer (.reject .duplicateTag))
            ∧ ((w.source, w.tag) ∉ s.tt.tagMap →
              (s.overLimit w.source → s.judge .write = answer .retry)
              ∧ (¬s.overLimit w.source →
                ((∀ b, s.buffer b ≠ none) →
                    (s.mgmt.regs.mergeEnable = true → ∀ b x, s.buffer b = some x → x.isOpen = true → x.line ≠ w.line) →
                  s.judge .write = .wantsBuffer)
                ∧ ((∃ b, s.buffer b = none)
                    ∨ (s.mgmt.regs.mergeEnable = true
                      ∧ ∃ b x, s.buffer b = some x ∧ x.isOpen = true ∧ x.line = w.line) →
                  ((s.record w.source).isSealed = true → s.judge .write = .waits)
                  ∧ ((s.record w.source).isSealed = false →
                    s.slotJudged s.tt.charges.write 4 (s.judge .write))))))))
      ∧ ∀ f rest, s.hport.flushLane = f :: rest →
        (∀ w ∈ s.hport.writeLane, w.stamp < f.stamp → w.source ≠ f.source) →
        ((f.source, f.tag) ∈ s.tt.tagMap → s.judge .flush = answer (.reject .duplicateTag))
        ∧ ((f.source, f.tag) ∉ s.tt.tagMap → s.slotJudged s.tt.charges.flush 2 (s.judge .flush))

/-- A write head that passes the throttle step and finds neither an OPEN buffer of its line nor a FREE one carries a
pressure request: unless a pressure seal is SEALED or DRAINING, the oldest OPEN buffer is sealed with PRESSURE. Where the
decision also serves another lane's head, both happen; their order is the model's free value (log 2). -/
def Obligations.PressureRequestSealsOldest : Prop :=
  ∀ s : State, s.mgmt.quiesce = .run → s.judge .write = .wantsBuffer →
    (∃ w rest, s.hport.writeLane = w :: rest ∧ (∀ b, s.buffer b ≠ none)
      ∧ (s.mgmt.regs.mergeEnable = true → ∀ b x, s.buffer b = some x → x.isOpen = true → x.line ≠ w.line))
    ∧ ((∃ b, (s.buffer b).any Buffer.isPressureSeal = true) → s.pressureTarget = none)
    ∧ ((∀ b, (s.buffer b).any Buffer.isPressureSeal = false) → s.pressureTarget = s.oldestOpen?)
    ∧ (s.pick = none → s.pressureTarget = none → exec .decision s = .next s)
    ∧ (∀ b, s.pick = none → s.pressureTarget = some b →
      ∃ t x queued, exec .decision s = .next t ∧ s.buffer b = some x ∧ x.isOpen = true ∧ queued = s.lineClear b x.line
        ∧ t.buffer b = some (x.sealedWith .pressure queued) ∧ (∀ b', b' ≠ b → t.buffer b' = s.buffer b')
        ∧ t.counter (.seals .pressure) = s.counter (.seals .pressure) + 1
        ∧ t.mport = { s.mport with iq := s.mport.iq ++ if queued then [.buffer b] else [] }
        ∧ t.hport = s.hport ∧ t.adm = s.adm ∧ t.tt = s.tt ∧ t.es = s.es ∧ t.fl = s.fl ∧ t.resp = s.resp
        ∧ t.mb.ageOrder = s.mb.ageOrder)
    ∧ ∀ b lane sv, s.pick = some (lane, sv) → s.pressureTarget = some b →
      ∃ t, exec .decision s = .next t ∧ t.choices = s.choices + 1
        ∧ (t = (State.serve { s with choices := s.choices + 1 } lane sv).pressureRequest
          ∨ t = (State.pressureRequest { s with choices := s.choices + 1 }).serve lane sv)

/-- An admitted Read: the conditions of its judgement hold, the lowest FREE slot is charged to the common pool or the Read
reserve, and the read is READY at the IQ tail, or waits on the youngest buffer of its line, which is sealed with READ if it
is OPEN. -/
def Obligations.ReadAdmittedToSlot : Prop :=
  ∀ (s : State) (stamp : Nat) (src : Source) (tag : Tag) (l : Line) (rest : List ReadLaneReq) (i : SlotId) (c : Charge),
    s.mgmt.quiesce = .run → s.hport.readLane = .read stamp src tag l :: rest →
    s.pick = some (.read, .admits i c) → (s.judge .write = .wantsBuffer → s.pressureTarget = none) →
    (∀ e x, s.entry e = some x → x.line = l → x.serves = false) →
    ((∀ w ∈ s.hport.writeLane, w.stamp < stamp → w.line ≠ l) ∧ l.toNat < s.mgmt.regs.topLine.toNat
      ∧ (src, tag) ∉ s.tt.tagMap
      ∧ ((s.meterOf src).state = .throttled ∨ (s.meterOf src).state = .cooling →
          s.holdingOf src < (s.meterOf src).conf.limit)
      ∧ s.slot i = none ∧ (∀ j, j < i → s.slot j ≠ none)
      ∧ (s.tt.charges.common < 38 ∧ c = .common ∨ 38 ≤ s.tt.charges.common ∧ s.tt.charges.read < 4 ∧ c = .reserve))
    ∧ ∃ t, exec .decision s = .next t
      ∧ t.counter .readsAdmitted = s.counter .readsAdmitted + 1
      ∧ t.tt.tagMap = s.tt.tagMap ++ [(src, tag)]
      ∧ (∀ src', t.holdingOf src' = if src' = src then s.holdingOf src + 1 else s.holdingOf src')
      ∧ (∀ j, j ≠ i → t.slot j = s.slot j)
      ∧ t.tt.charges = s.tt.charges.modify (· + 1) (poolOf .read c)
      ∧ (s.youngestBuffer? l = none →
          t.slot i = some ⟨src, tag, c, .read l false .ready⟩ ∧ t.mport = { s.mport with iq := s.mport.iq ++ [.slot i] }
          ∧ t.mb = s.mb)
      ∧ (∀ b x, s.youngestBuffer? l = some b → s.buffer b = some x →
          t.slot i = some ⟨src, tag, c, .read l false (.waitWrite b)⟩
          ∧ (∃ queued, queued = s.lineClear b x.line ∧ t.buffer b = some { x.sealedWith .read queued with waitingReads := x.waitingReads ++ [i] }
            ∧ t.mport = { s.mport with iq := s.mport.iq ++ if x.isOpen && queued then [.buffer b] else [] })
          ∧ (∀ b', b' ≠ b → t.buffer b' = s.buffer b') ∧ t.mb.ageOrder = s.mb.ageOrder
          ∧ t.counter (.seals .read) = s.counter (.seals .read) + if x.isOpen then 1 else 0)
      ∧ t.fl = s.fl ∧ t.es = s.es ∧ t.resp = s.resp

/-- A Read that meets a HELD entry of its line is RETURNED at once with a copy of its data; one that meets a PENDING entry
is attached to it. Both count in HINT_HITS and neither looks at the merge buffer. -/
def Obligations.ReadServedByEntry : Prop :=
  ∀ (s : State) (stamp : Nat) (src : Source) (tag : Tag) (l : Line) (rest : List ReadLaneReq) (i : SlotId) (c : Charge)
      (e : EntryId) (by' : Source),
    s.mgmt.quiesce = .run → s.hport.readLane = .read stamp src tag l :: rest →
    s.pick = some (.read, .admits i c) → (s.judge .write = .wantsBuffer → s.pressureTarget = none) → s.EntryLaw →
    (∀ data life, s.entry e = some ⟨l, by', .held data life⟩ →
      ∃ t, exec .decision s = .next t
        ∧ t.slot i = some ⟨src, tag, c, .read l false (.returned (.ok data) false)⟩
        ∧ t.resp = { s.resp with rrl := s.resp.rrl ++ [.slot i] } ∧ t.es = s.es ∧ t.mport = s.mport ∧ t.mb = s.mb
        ∧ t.fl = s.fl ∧ (∀ j, j ≠ i → t.slot j = s.slot j) ∧ t.tt.tagMap = s.tt.tagMap ++ [(src, tag)]
        ∧ t.counter .hintHits = s.counter .hintHits + 1 ∧ t.counter .readsAdmitted = s.counter .readsAdmitted + 1)
    ∧ ∀ f, s.entry e = some ⟨l, by', .pending f⟩ →
      ∃ t, exec .decision s = .next t
        ∧ t.slot i = some ⟨src, tag, c, .read l false (.attached e)⟩
        ∧ t.entry e = some ⟨l, by', .pending { f with attached := f.attached ++ [i] }⟩
        ∧ (∀ e', e' ≠ e → t.entry e' = s.entry e') ∧ t.resp = s.resp ∧ t.mport = s.mport ∧ t.mb = s.mb ∧ t.fl = s.fl
        ∧ (∀ j, j ≠ i → t.slot j = s.slot j) ∧ t.tt.tagMap = s.tt.tagMap ++ [(src, tag)]
        ∧ t.counter .hintHits = s.counter .hintHits + 1 ∧ t.counter .readsAdmitted = s.counter .readsAdmitted + 1

/-- An admitted Write or MaskedWrite: the conditions of its judgement hold; it takes the lowest FREE slot, is merged into
the OPEN buffer of its line or opens the lowest FREE one, whose seal follows FULL before COUNT, or DISABLED while merging is
off, and is counted for its cause; its acknowledgement joins its source's bundle record, the first starting the hold timer
and a later one leaving it as it runs; a PENDING entry of its line becomes STALE and a HELD one FREE. -/
def Obligations.WriteAdmittedAndMerged : Prop :=
  ∀ (s : State) (w : WriteReq) (rest : List WriteReq) (i : SlotId) (c : Charge),
    s.mgmt.quiesce = .run → s.hport.writeLane = w :: rest → s.pick = some (.write, .admits i c) → s.EntryLaw →
    ((∀ stamp src tag, .read stamp src tag w.line ∈ s.hport.readLane → w.stamp ≤ stamp)
      ∧ w.line.toNat < s.mgmt.regs.topLine.toNat ∧ (w.masked = true → isEmptyMask w.payload = false)
      ∧ (w.source, w.tag) ∉ s.tt.tagMap
      ∧ ((s.meterOf w.source).state = .throttled ∨ (s.meterOf w.source).state = .cooling →
          s.holdingOf w.source < (s.meterOf w.source).conf.limit)
      ∧ (s.record w.source).isSealed = false ∧ s.slot i = none ∧ (∀ j, j < i → s.slot j ≠ none)
      ∧ (s.tt.charges.common < 38 ∧ c = .common ∨ 38 ≤ s.tt.charges.common ∧ s.tt.charges.write < 4 ∧ c = .reserve))
    ∧ ∃ t b queued, exec .decision s = .next t ∧ queued = s.lineClear b w.line
      ∧ t.slot i = some ⟨w.source, w.tag, c, .write w.line (w.masked && !isFull w.payload) b⟩
      ∧ (∀ j, j ≠ i → t.slot j = s.slot j) ∧ t.tt.tagMap = s.tt.tagMap ++ [(w.source, w.tag)]
      ∧ (∀ src, t.holdingOf src = if src = w.source then s.holdingOf src + 1 else s.holdingOf src)
      ∧ t.counter .writesAdmitted = s.counter .writesAdmitted + 1
      ∧ (∀ b', b' ≠ b → t.buffer b' = s.buffer b')
      ∧ (∃ pl, s.placement w.line = some pl ∧ b = pl.buffer)
      ∧ (s.mgmt.regs.mergeEnable = true → ∀ b0 x, s.buffer b0 = some x → x.isOpen = true → x.line = w.line →
          s.openBuffer? w.line = some b ∧ (s.buffer b).any (fun y => y.isOpen && y.line == w.line) = true
          ∧ (s.LineLaw → b = b0))
      ∧ (∀ m openedAt reads cont age, s.mgmt.regs.mergeEnable = true →
          s.openBuffer? w.line = some b → s.buffer b = some ⟨w.line, m, openedAt, reads, .opened cont age⟩ →
          let merged : Content := ⟨mergePayload cont.payload w.payload, joinContributors cont.contributors w.source⟩
          t.mb.ageOrder = s.mb.ageOrder
          ∧ t.buffer b = some ⟨w.line, m + 1, openedAt, reads,
              if isFull merged.payload = true then .sealed merged .full queued []
              else if 8 ≤ m + 1 then .sealed merged .count queued [] else .opened merged age⟩)
      ∧ (s.mgmt.regs.mergeEnable = false ∨ s.openBuffer? w.line = none →
          s.freeBuffer? = some b ∧ s.buffer b = none ∧ (∀ b', b' < b → s.buffer b' ≠ none) ∧ t.mb.ageOrder = s.mb.ageOrder ++ [b]
          ∧ t.buffer b = some ⟨w.line, 1, s.mgmt.time, [],
              if s.mgmt.regs.mergeEnable = false then .sealed ⟨w.payload, [w.source]⟩ .disabled queued []
              else if isFull w.payload = true then .sealed ⟨w.payload, [w.source]⟩ .full queued []
              else .opened ⟨w.payload, [w.source]⟩ s.mgmt.regs.mergeAge⟩)
      ∧ t.mport = { s.mport with
          iq := s.mport.iq ++ if (t.buffer b).any (fun x => !x.isOpen) && queued then [.buffer b] else [] }
      ∧ (∀ e, t.entry e = match s.entry e with
          | some ⟨l, src, .pending f⟩ => if l = w.line then some ⟨l, src, .stale f⟩ else some ⟨l, src, .pending f⟩
          | some ⟨l, src, .held data life⟩ => if l = w.line then none else some ⟨l, src, .held data life⟩
          | x => x)
      ∧ (t.record w.source).acks = (s.record w.source).acks ++ [⟨w.tag, .write, .ok⟩]
      ∧ ((t.record w.source).isSealed = true ↔
          8 ≤ (s.record w.source).acks.length + 1 ∨ s.record w.source = .empty ∧ s.mgmt.regs.bundleHold = 0)
      ∧ (s.record w.source = .empty →
          t.record w.source = if s.mgmt.regs.bundleHold = 0 then .sealed [⟨w.tag, .write, .ok⟩]
            else .filling [⟨w.tag, .write, .ok⟩] s.mgmt.regs.bundleHold)
      ∧ (∀ acks hold, s.record w.source = .filling acks hold →
          t.record w.source = if 8 ≤ acks.length + 1 then .sealed (acks ++ [⟨w.tag, .write, .ok⟩])
            else .filling (acks ++ [⟨w.tag, .write, .ok⟩]) hold)
      ∧ t.mgmt = { s.mgmt with counters := t.mgmt.counters }
      ∧ (∀ cause, t.counter (.seals cause) = s.counter (.seals cause) +
          match t.buffer b with
          | some ⟨_, _, _, _, .sealed _ cause' _ _⟩ => if cause' = cause then 1 else 0
          | _ => 0)
      ∧ (∀ c, c ≠ .writesAdmitted → (∀ cause, c ≠ .seals cause) → t.counter c = s.counter c)
      ∧ t.resp = { s.resp with
          records := t.resp.records
          rrl := s.resp.rrl ++ if (t.record w.source).isSealed then [.record w.source] else [] }
      ∧ (∀ src, src ≠ w.source → t.record src = s.record src) ∧ t.fl = s.fl

/-- An admitted Flush: the OPEN buffers its source contributes to are sealed with FLUSH and queued where their line is clear,
it joins the list of every SEALED or DRAINING buffer its source contributes to, and waits for their number behind its
source's earlier flushes; with no such buffer, no earlier flush and a record that is not SEALED it completes in the same
happening. -/
def Obligations.FlushAdmittedAndRegistered : Prop :=
  ∀ (s : State) (stamp : Nat) (src : Source) (tag : Tag) (rest : List FlushReq) (i : SlotId) (c : Charge),
    s.mgmt.quiesce = .run → s.hport.flushLane = ⟨stamp, src, tag⟩ :: rest → s.pick = some (.flush, .admits i c) →
    (s.judge .write = .wantsBuffer → s.pressureTarget = none) →
    ((∀ w ∈ s.hport.writeLane, w.stamp < stamp → w.source ≠ src) ∧ (src, tag) ∉ s.tt.tagMap
      ∧ s.slot i = none ∧ (∀ j, j < i → s.slot j ≠ none)
      ∧ (s.tt.charges.common < 38 ∧ c = .common ∨ 38 ≤ s.tt.charges.common ∧ s.tt.charges.flush < 2 ∧ c = .reserve))
    ∧ ∃ t, exec .decision s = .next t
      ∧ t.counter .flushesAdmitted = s.counter .flushesAdmitted + 1
      ∧ t.tt.tagMap = s.tt.tagMap ++ [(src, tag)] ∧ t.es = s.es ∧ t.mb.ageOrder = s.mb.ageOrder
      ∧ (∀ b x, s.buffer b = some x → x.contributors.contains src = false → t.buffer b = some x)
      ∧ (∀ b, s.buffer b = none → t.buffer b = none)
      ∧ (∀ b x, s.buffer b = some x → x.contributors.contains src = true →
          ∃ queued, t.buffer b = some ((x.sealedWith .flush queued).mapFlushes (· ++ [i])))
      ∧ (s.LineLaw →
        (∀ b x, s.buffer b = some x → x.contributors.contains src = true →
          t.buffer b = some ((x.sealedWith .flush (s.lineClear b x.line)).mapFlushes (· ++ [i])))
        ∧ t.mport.iq = s.mport.iq ++ s.sealsQueued fun x => x.contributors.contains src)
      ∧ (s.mport.iq <+: t.mport.iq)
      ∧ t.mport = { s.mport with
          iq := t.mport.iq, outstanding := t.mport.outstanding, orphaned := t.mport.orphaned }
      ∧ (∀ d, d ≠ slotDtag i →
          (d ∈ t.mport.outstanding ↔ d ∈ s.mport.outstanding) ∧ (d ∈ t.mport.orphaned ↔ d ∈ s.mport.orphaned))
      ∧ t.counter (.seals .flush) = s.counter (.seals .flush)
          + BitVec.ofNat 32 (s.countBuffers fun x => x.isOpen && x.contributors.contains src)
      ∧ (∀ n, n = s.countBuffers (fun x => x.contributors.contains src) →
          ((s.record src).isSealed = true ∨ s.flushOrder src = [] ∧ 0 < n
              ∨ (∃ head order src' tag' c' k, s.flushOrder src = head :: order
                ∧ s.slot head = some ⟨src', tag', c', .flush (k + 1)⟩) →
            t.slot i = some ⟨src, tag, c, .flush n⟩ ∧ (∀ j, j ≠ i → t.slot j = s.slot j)
            ∧ t.flushOrder src = s.flushOrder src ++ [i] ∧ t.fl.latches = s.fl.latches ∧ t.resp = s.resp)
          ∧ ((s.record src).isSealed = false → s.flushOrder src = [] → n = 0 →
            (∀ j, t.slot j = s.slot j) ∧ t.flushOrder src = [] ∧ t.latch src = false
            ∧ (∀ src', src' ≠ src → t.latch src' = s.latch src' ∧ t.record src' = s.record src')
            ∧ t.record src
              = .sealed ((s.record src).acks ++ [⟨tag, .flush, if s.latch src then .fault else .ok⟩])
            ∧ t.resp.rrl = s.resp.rrl ++ [.record src]))

/-- A head judged for Reject or Retry is answered only while the RQ has a place and the RRL is empty: its message joins the
RQ, a Reject is logged and counted, a Retry counted, and no slot, pair, buffer, entry or latch changes. -/
def Obligations.RejectAndRetryAnswered : Prop :=
  ∀ (s : State) (lane : Lane) (sv : Service), s.mgmt.quiesce = .run → s.pick = some (lane, sv) →
    (s.judge .write = .wantsBuffer → s.pressureTarget = none) → (sv = .retry ∨ ∃ r, sv = .reject r) →
    s.resp.rq.length < 32 ∧ s.resp.rrl = []
    ∧ ∃ t src tag line kind, exec .decision s = .next t
      ∧ ((∃ stamp l rest, lane = .read ∧ kind = .read ∧ line = some l
            ∧ s.hport.readLane = .read stamp src tag l :: rest)
        ∨ (∃ w rest, lane = .write ∧ s.hport.writeLane = w :: rest ∧ src = w.source ∧ tag = w.tag
            ∧ line = some w.line
            ∧ kind = (if w.masked = true ∧ (isFull w.payload = false ∨ sv = .reject .outOfRange) then .maskedWrite
                else .write))
        ∨ (∃ stamp rest, lane = .flush ∧ kind = .flush ∧ line = none ∧ s.hport.flushLane = ⟨stamp, src, tag⟩ :: rest))
      ∧ (sv = .retry → ((s.meterOf src).state = .throttled ∨ (s.meterOf src).state = .cooling)
          ∧ (s.meterOf src).conf.limit ≤ s.holdingOf src
          ∧ t.resp = { s.resp with rq := s.resp.rq ++ [.retry src tag kind] }
          ∧ t.mgmt.notices = s.mgmt.notices ∧ t.counter .retries = s.counter .retries + 1)
      ∧ (∀ r, sv = .reject r →
          (r = .outOfRange → ∃ l, line = some l ∧ s.mgmt.regs.topLine.toNat ≤ l.toNat)
          ∧ (r = .emptyMask → ∃ w rest, s.hport.writeLane = w :: rest ∧ w.masked = true ∧ isEmptyMask w.payload = true)
          ∧ (r = .duplicateTag → (src, tag) ∈ s.tt.tagMap)
          ∧ t.resp = { s.resp with rq := s.resp.rq ++ [.reject src tag kind r] }
          ∧ t.counter .rejects = s.counter .rejects + 1
          ∧ t.mgmt.notices = (s.logNotice ⟨.rejected, s.mgmt.time, some src, some tag, line, none, some r⟩).mgmt.notices)
      ∧ t.tt = s.tt ∧ t.mb = s.mb ∧ t.es = s.es ∧ t.fl = s.fl ∧ t.mport = s.mport

/-- A Hint at the head of the read lane is servable at every decision. It is dropped, with HINTS_DROPPED and nothing else,
when a condition of R64 holds, and else takes the lowest FREE entry, PENDING and queued in the IQ. -/
def Obligations.HintAcceptedOrDropped : Prop :=
  ∀ (s : State) (stamp : Nat) (src : Source) (l : Line) (rest : List ReadLaneReq),
    s.hport.readLane = .hint stamp src l :: rest →
    (∃ sv, s.judge .read = .serves sv)
    ∧ ∀ sv, s.mgmt.quiesce = .run → s.pick = some (.read, sv) →
      (s.judge .write = .wantsBuffer → s.pressureTarget = none) →
      ((s.mgmt.regs.hintEnable = false ∨ s.mport.up = false ∨ s.mgmt.regs.topLine.toNat ≤ l.toNat
          ∨ (∃ e x, s.entry e = some x ∧ x.line = l) ∨ (∃ b x, s.buffer b = some x ∧ x.line = l)
          ∨ (∀ e, s.entry e ≠ none) →
        ∃ t, exec .decision s = .next t ∧ t.counter .hintsDropped = s.counter .hintsDropped + 1
          ∧ t.tt = s.tt ∧ t.mb = s.mb ∧ t.es = s.es ∧ t.fl = s.fl ∧ t.mport = s.mport ∧ t.resp = s.resp
          ∧ t.mgmt.notices = s.mgmt.notices)
      ∧ (s.mgmt.regs.hintEnable = true → s.mport.up = true → l.toNat < s.mgmt.regs.topLine.toNat →
        (∀ e x, s.entry e = some x → x.line ≠ l) → (∀ b x, s.buffer b = some x → x.line ≠ l) →
        ∀ e, s.entry e = none → (∀ e', e' < e → s.entry e' ≠ none) →
          ∃ t, exec .decision s = .next t ∧ t.entry e = some ⟨l, src, .pending ⟨true, [], none⟩⟩
            ∧ (∀ e', e' ≠ e → t.entry e' = s.entry e')
            ∧ t.mport = { s.mport with iq := s.mport.iq ++ [.entry e] }
            ∧ t.counter .hintsAccepted = s.counter .hintsAccepted + 1
            ∧ t.tt = s.tt ∧ t.mb = s.mb ∧ t.fl = s.fl ∧ t.resp = s.resp ∧ t.mgmt.notices = s.mgmt.notices))

/-! ## Departures and entries -/

/-- The IQ head departs while the M-port is UP and holds a credit: the reference and one credit are gone, the message with
its owner's dtag is sent, the dtag is outstanding with the deadline in force, and the owner and its counter move on. With
no credit, with an empty IQ, or while DOWN, nothing departs. -/
def Obligations.IqHeadDeparts : Prop :=
  ∀ s : State,
    (s.mport.up = false ∨ s.mport.credits = 0 → exec .departure s = .next s)
    ∧ (s.QuietLaw → s.mport.iq = [] → exec .departure s = .next s)
    ∧ ∀ rest deadline, s.mport.up = true → 0 < s.mport.credits →
      deadline = (if s.mgmt.regs.deadline = 0 then none else some (s.mgmt.regs.deadline * 100)) →
      (∀ i src tag c l d, s.mport.iq = .slot i :: rest → s.slot i = some ⟨src, tag, c, .read l d .ready⟩ →
        exec .departure s = .next
          ((State.setSlot { s with mport := { s.mport with
              iq := rest, credits := s.mport.credits - 1, sent := s.mport.sent ++ [.fetch (slotDtag i) l]
              outstanding := s.mport.outstanding.filter (· ≠ slotDtag i) ++ [slotDtag i] } }
            i (some ⟨src, tag, c, .read l d (.issued deadline)⟩)).bump .fetchesSent))
      ∧ (∀ b line m openedAt reads c cause w, s.mport.iq = .buffer b :: rest →
        s.buffer b = some ⟨line, m, openedAt, reads, .sealed c cause true w⟩ →
        exec .departure s = .next
          ((State.setBuffer { s with mport := { s.mport with
              iq := rest, credits := s.mport.credits - 1
              sent := s.mport.sent ++ [if isFull c.payload = true then
                  .store (bufferDtag b) line (Vector.ofFn fun k => (tget c.payload k).getD 0)
                else .storeMasked (bufferDtag b) line c.payload]
              outstanding := s.mport.outstanding.filter (· ≠ bufferDtag b) ++ [bufferDtag b] } }
            b (some ⟨line, m, openedAt, reads, .draining c cause w deadline⟩)).bump .storesSent))
      ∧ ∀ (e : EntryId) (l : Line) (by' : Source) (f : HintFetch) (stale : Bool), s.mport.iq = .entry e :: rest → f.queued = true →
        s.entry e = some ⟨l, by', if stale then .stale f else .pending f⟩ →
        exec .departure s = .next
          ((State.setEntry { s with mport := { s.mport with
              iq := rest, credits := s.mport.credits - 1, sent := s.mport.sent ++ [.fetch (entryDtag e) l]
              outstanding := s.mport.outstanding.filter (· ≠ entryDtag e) ++ [entryDtag e] } }
            e (some ⟨l, by', if stale then .stale ⟨false, f.attached, deadline⟩
              else .pending ⟨false, f.attached, deadline⟩⟩)).bump .fetchesSent)

/-- A read slot at the RRL head enters the RQ while it has a place: its ReadReturn is at the RQ tail, its pair is gone from
the tag map, and the slot is FREE, or ORPHANED while its late answer is due. With a full RQ, or an empty RRL, nothing
enters. -/
def Obligations.ReadEntersResponseQueue : Prop :=
  ∀ s : State,
    (32 ≤ s.resp.rq.length → exec .rrlReadEntry s = .next s) ∧ (s.QuietLaw → s.resp.rrl = [] → exec .rrlReadEntry s = .next s)
    ∧ ∀ i rest src tag c l d r orphan, s.resp.rq.length < 32 → s.resp.rrl = .slot i :: rest →
      s.slot i = some ⟨src, tag, c, .read l d (.returned r orphan)⟩ →
      ∃ t, exec .rrlReadEntry s = .next t
        ∧ t.resp = { s.resp with rrl := rest, rq := s.resp.rq ++ [.readReturn src tag r] }
        ∧ t.tt.tagMap = s.tt.tagMap.filter (· ≠ (src, tag))
        ∧ (orphan = true → t.slot i = some ⟨src, tag, c, .read l d .orphaned⟩ ∧ t.tt.charges = s.tt.charges
          ∧ t.holdingOf src = s.holdingOf src ∧ t.mport = s.mport ∧ t.mgmt = s.mgmt)
        ∧ (orphan = false → t.slot i = none ∧ t.holdingOf src = s.holdingOf src - 1
          ∧ t.tt.charges = s.tt.charges.modify (· - 1) (poolOf .read c)
          ∧ slotDtag i ∉ t.mport.outstanding ∧ slotDtag i ∉ t.mport.orphaned)
        ∧ (∀ j, j ≠ i → t.slot j = s.slot j) ∧ t.mb = s.mb ∧ t.fl = s.fl ∧ t.es = s.es ∧ t.hport = s.hport
        ∧ t.adm = s.adm ∧ t.meter = s.meter ∧ t.mport.iq = s.mport.iq
        ∧ t.mgmt = (s.settled t.quietCondition).mgmt

/-- A bundle record at the RRL head enters the RQ while it has a place: its Bundle is at the RQ tail, its pairs are gone
from the tag map and the record is EMPTY, unless the head of its source's flush order is finished: then that flush completes
into the record, which is SEALED again at the RRL tail. -/
def Obligations.BundleEntersResponseQueue : Prop :=
  ∀ s : State,
    (32 ≤ s.resp.rq.length → exec .bundleEntry s = .next s) ∧ (s.QuietLaw → s.resp.rrl = [] → exec .bundleEntry s = .next s)
    ∧ ∀ src rest acks, s.resp.rq.length < 32 → s.resp.rrl = .record src :: rest → s.record src = .sealed acks →
      ∃ t, exec .bundleEntry s = .next t
        ∧ t.resp.rq = s.resp.rq ++ [.bundle src acks]
        ∧ t.tt.tagMap = s.tt.tagMap.filter (fun q => !(q.1 == src && acks.any fun a => a.tag == q.2))
        ∧ (∀ src', src' ≠ src → t.record src' = s.record src' ∧ t.latch src' = s.latch src'
          ∧ t.flushOrder src' = s.flushOrder src')
        ∧ ((∀ i order, s.flushOrder src = i :: order → ∀ src' tag c, s.slot i ≠ some ⟨src', tag, c, .flush 0⟩) →
          t.record src = .empty ∧ t.resp.rrl = rest ∧ (∀ i, t.slot i = s.slot i) ∧ t.fl = s.fl)
        ∧ (∀ i order tag c, s.flushOrder src = i :: order → s.slot i = some ⟨src, tag, c, .flush 0⟩ →
          t.record src = .sealed [⟨tag, .flush, if s.latch src then .fault else .ok⟩]
          ∧ t.resp.rrl = rest ++ [.record src] ∧ t.slot i = none ∧ t.latch src = false ∧ t.flushOrder src = order
          ∧ ∀ j, j ≠ i → t.slot j = s.slot j)
        ∧ t.mb = s.mb ∧ t.es = s.es ∧ t.hport = s.hport ∧ t.adm = s.adm ∧ t.meter = s.meter
        ∧ t.mport.iq = s.mport.iq ∧ t.resp.credits = s.resp.credits
        ∧ t.mgmt = (s.settled t.quietCondition).mgmt

/-- The RQ head departs while the H-port is UP and holds a response credit, and consumes the credit; else nothing is sent.
Nothing else changes. -/
def Obligations.ResponseDeparts : Prop :=
  ∀ s : State,
    (s.hport.up = false ∨ s.resp.credits = 0 ∨ s.resp.rq = [] → exec .rqDeparture s = .next s)
    ∧ ∀ m rest, s.hport.up = true → 0 < s.resp.credits → s.resp.rq = m :: rest →
      exec .rqDeparture s = .next { s with
        hport := { s.hport with sent := s.hport.sent ++ [.response m] }
        resp := { s.resp with rq := rest, credits := s.resp.credits - 1 } }

/-! ## Laws that every step keeps -/

/-- Charges, holding counts and the merged counts of buffers count slots. -/
def Obligations.StepKeepsSlotCounts : Prop :=
  ∀ s t : State, s.ChargesLaw ∧ s.HoldingLaw ∧ s.MergedLaw → step s = .next t →
    t.ChargesLaw ∧ t.HoldingLaw ∧ t.MergedLaw

/-- One OPEN and one blocking buffer a line, and an age order of the buffers in use. -/
def Obligations.StepKeepsLineOrder : Prop :=
  ∀ s t : State, s.LineLaw ∧ s.AgeLaw → step s = .next t → t.LineLaw ∧ t.AgeLaw

/-- One entry a line, and none HELD or PENDING for a line with a buffer. -/
def Obligations.StepKeepsEntriesOffBuffers : Prop :=
  ∀ s t : State, s.EntryLaw → step s = .next t → t.EntryLaw

/-- The waiting and attached lists are the slots that wait there. -/
def Obligations.StepKeepsWaitLists : Prop :=
  ∀ s t : State, s.WaitLaw → step s = .next t → t.WaitLaw

/-- The IQ is the owners that wait in it. -/
def Obligations.StepKeepsIssueQueue : Prop :=
  ∀ s t : State, s.IqLaw → step s = .next t → t.IqLaw

/-- The dtag sets are what their owners await. -/
def Obligations.StepKeepsDtagSets : Prop :=
  ∀ s t : State, s.DtagLaw → step s = .next t → t.DtagLaw

/-- The RRL is the finished reads and SEALED records, and records are lawful. -/
def Obligations.StepKeepsResponseList : Prop :=
  ∀ s t : State, s.RrlLaw ∧ s.BundleLaw → step s = .next t → t.RrlLaw ∧ t.BundleLaw

/-- Lane occupancy and released credits make the capacity, credits, RQ and log stay within their limits, and every
configuration register and meter configuration within its range. -/
def Obligations.StepKeepsLanesAndLimits : Prop :=
  ∀ s t : State, s.LaneLaw ∧ s.LimitLaw ∧ s.RangeLaw → step s = .next t → t.LaneLaw ∧ t.LimitLaw ∧ t.RangeLaw

/-- The IRQ line stands at its level, the controller is never DRAINING when it should be QUIET, and a meter is OFF exactly
while its configuration is disabled. -/
def Obligations.StepKeepsStatus : Prop :=
  ∀ s t : State, s.IrqLaw ∧ s.QuietLaw ∧ s.MeterLaw → step s = .next t → t.IrqLaw ∧ t.QuietLaw ∧ t.MeterLaw

/-- Flush order lists are the waiting flushes, their counts are the lists they stand on, and a finished head waits only for a
SEALED record. -/
def Obligations.StepKeepsFlushes : Prop :=
  ∀ s t : State, s.OrderLaw ∧ s.FlushLaw ∧ s.FinishLaw → step s = .next t → t.OrderLaw ∧ t.FlushLaw ∧ t.FinishLaw

/-- No pair twice in the tag map, and one holder for each. -/
def Obligations.StepKeepsTagMap : Prop :=
  ∀ s t : State, s.OrderLaw ∧ s.RrlLaw ∧ s.TagLaw → step s = .next t → t.TagLaw
end

