-- ==== Sys2Proof/Laws/State.lean ====
section
/-! SUPPORT. One lemma per field per update: what each primitive update of the state (Machine/Tables.lean, and the slot
taking of Machine/Ops.lean) leaves as it was, and what it writes. All are simp lemmas, so no proof unfolds an update. -/

namespace Sys2Proof.Machine

/-! ## Tables -/

@[simp] theorem tget_tset_self {α : Type} {n : Nat} (t : Vector α n) (i : Fin n) (x : α) : tget (tset t i x) i = x := by
  simp [tget, tset]

theorem tget_tset_of_ne {α : Type} {n : Nat} (t : Vector α n) {i j : Fin n} (x : α) (h : j ≠ i) :
    tget (tset t i x) j = tget t j := by
  have h' : i.val ≠ j.val := fun e => h (Fin.ext e.symm)
  simp [tget, tset, h']

theorem tget_tset {α : Type} {n : Nat} (t : Vector α n) (i j : Fin n) (x : α) :
    tget (tset t i x) j = if j = i then x else tget t j := by
  by_cases h : j = i
  · subst h; simp
  · simp [h, tget_tset_of_ne]

@[simp] theorem tget_tmap {α β : Type} {n : Nat} (f : α → β) (t : Vector α n) (i : Fin n) :
    tget (tmap f t) i = f (tget t i) := by simp [tget, tmap]

@[simp] theorem tget_ofFn {α : Type} {n : Nat} (f : Fin n → α) (i : Fin n) : tget (Vector.ofFn f) i = f i := by
  simp [tget]

@[simp] theorem tget_replicate {α : Type} {n : Nat} (x : α) (i : Fin n) : tget (Vector.replicate n x) i = x := by
  simp [tget]

theorem table_ext {α : Type} {n : Nat} {t u : Vector α n} (h : ∀ i, tget t i = tget u i) : t = u :=
  Vector.ext fun i hi => h ⟨i, hi⟩

@[simp] theorem tset_tget_self {α : Type} {n : Nat} (t : Vector α n) (i : Fin n) : tset t i (tget t i) = t := by
  apply table_ext; intro j; rw [tget_tset]; split
  · next h => subst h; rfl
  · rfl

theorem mem_slotIds (i : SlotId) : i ∈ slotIds := by simp [slotIds]
theorem mem_bufferIds (b : BufferId) : b ∈ bufferIds := by simp [bufferIds]
theorem mem_entryIds (e : EntryId) : e ∈ entryIds := by simp [entryIds]
theorem mem_sources (src : Source) : src ∈ sources := by simp [sources]
theorem slotIds_nodup : slotIds.Nodup := List.nodup_finRange 48
theorem bufferIds_nodup : bufferIds.Nodup := List.nodup_finRange 16
theorem entryIds_nodup : entryIds.Nodup := List.nodup_finRange 8
theorem sources_nodup : sources.Nodup := List.nodup_finRange 16

/-! ## An accessor reads only its block -/

theorem State.slot_congr {s t : State} (h : t.tt = s.tt) (i : SlotId) : t.slot i = s.slot i := by
  simp [State.slot, h]
theorem State.buffer_congr {s t : State} (h : t.mb = s.mb) (b : BufferId) : t.buffer b = s.buffer b := by
  simp [State.buffer, h]
theorem State.entry_congr {s t : State} (h : t.es = s.es) (e : EntryId) : t.entry e = s.entry e := by
  simp [State.entry, h]
theorem State.record_congr {s t : State} (h : t.resp = s.resp) (src : Source) : t.record src = s.record src := by
  simp [State.record, h]
theorem State.latch_congr {s t : State} (h : t.fl = s.fl) (src : Source) : t.latch src = s.latch src := by
  simp [State.latch, h]
theorem State.flushOrder_congr {s t : State} (h : t.fl = s.fl) (src : Source) : t.flushOrder src = s.flushOrder src := by
  simp [State.flushOrder, h]
theorem State.holdingOf_congr {s t : State} (h : t.tt = s.tt) (src : Source) : t.holdingOf src = s.holdingOf src := by
  simp [State.holdingOf, h]
theorem State.meterOf_congr {s t : State} (h : t.meter = s.meter) (src : Source) : t.meterOf src = s.meterOf src := by
  simp [State.meterOf, h]
theorem State.counter_congr {s t : State} (h : t.mgmt = s.mgmt) (c : Counter) : t.counter c = s.counter c := by
  simp [State.counter, h]

/-! ## What each update writes -/

@[simp] theorem State.slot_setSlot (s : State) (i j : SlotId) (x : Option Slot) :
    (s.setSlot i x).slot j = if j = i then x else s.slot j := tget_tset ..
@[simp] theorem State.buffer_setBuffer (s : State) (i j : BufferId) (x : Option Buffer) :
    (s.setBuffer i x).buffer j = if j = i then x else s.buffer j := tget_tset ..
@[simp] theorem State.entry_setEntry (s : State) (i j : EntryId) (x : Option Entry) :
    (s.setEntry i x).entry j = if j = i then x else s.entry j := tget_tset ..
@[simp] theorem State.record_setRecord (s : State) (i j : Source) (x : BundleRecord) :
    (s.setRecord i x).record j = if j = i then x else s.record j := tget_tset ..
@[simp] theorem State.latch_setLatch (s : State) (i j : Source) (x : Bool) :
    (s.setLatch i x).latch j = if j = i then x else s.latch j := tget_tset ..
@[simp] theorem State.flushOrder_setFlushOrder (s : State) (i j : Source) (x : List SlotId) :
    (s.setFlushOrder i x).flushOrder j = if j = i then x else s.flushOrder j := tget_tset ..
@[simp] theorem State.holdingOf_setHolding (s : State) (i j : Source) (x : Nat) :
    (s.setHolding i x).holdingOf j = if j = i then x else s.holdingOf j := tget_tset ..
@[simp] theorem State.meterOf_setMeter (s : State) (i j : Source) (x : Meter) :
    (s.setMeter i x).meterOf j = if j = i then x else s.meterOf j := tget_tset ..
@[simp] theorem State.iq_pushIq (s : State) (r : IqRef) : (s.pushIq r).mport.iq = s.mport.iq ++ [r] := rfl
@[simp] theorem State.rrl_pushRrl (s : State) (r : RrlRef) : (s.pushRrl r).resp.rrl = s.resp.rrl ++ [r] := rfl
@[simp] theorem State.rq_pushRq (s : State) (m : Response) : (s.pushRq m).resp.rq = s.resp.rq ++ [m] := rfl
@[simp] theorem State.sent_sendHost (s : State) (m : HostMsg) : (s.sendHost m).hport.sent = s.hport.sent ++ [m] := rfl
@[simp] theorem State.sent_sendMem (s : State) (m : MemMsg) : (s.sendMem m).mport.sent = s.mport.sent ++ [m] := rfl
@[simp] theorem State.outstanding_dtagFree (s : State) (d : Dtag) :
    (s.dtagFree d).mport.outstanding = s.mport.outstanding.filter (· ≠ d) := rfl
@[simp] theorem State.orphaned_dtagFree (s : State) (d : Dtag) :
    (s.dtagFree d).mport.orphaned = s.mport.orphaned.filter (· ≠ d) := rfl
@[simp] theorem State.outstanding_dtagOrphan (s : State) (d : Dtag) :
    (s.dtagOrphan d).mport.outstanding = s.mport.outstanding.filter (· ≠ d) := rfl
@[simp] theorem State.orphaned_dtagOrphan (s : State) (d : Dtag) :
    (s.dtagOrphan d).mport.orphaned = s.mport.orphaned.filter (· ≠ d) ++ [d] := rfl
@[simp] theorem State.outstanding_dtagSend (s : State) (d : Dtag) :
    (s.dtagSend d).mport.outstanding = s.mport.outstanding.filter (· ≠ d) ++ [d] := rfl
@[simp] theorem State.tagMap_dropPair (s : State) (src : Source) (tag : Tag) :
    (s.dropPair src tag).tt.tagMap = s.tt.tagMap.filter (· ≠ (src, tag)) := rfl
@[simp] theorem State.slot_takeSlot (s : State) (i j : SlotId) (x : Slot) :
    (s.takeSlot i x).slot j = if j = i then some x else s.slot j := tget_tset ..
@[simp] theorem State.holdingOf_takeSlot (s : State) (i : SlotId) (x : Slot) (src : Source) :
    (s.takeSlot i x).holdingOf src = if src = x.source then s.holdingOf x.source + 1 else s.holdingOf src :=
  tget_tset ..
@[simp] theorem State.tagMap_takeSlot (s : State) (i : SlotId) (x : Slot) :
    (s.takeSlot i x).tt.tagMap = s.tt.tagMap ++ [(x.source, x.tag)] := rfl
@[simp] theorem State.charges_takeSlot (s : State) (i : SlotId) (x : Slot) :
    (s.takeSlot i x).tt.charges = s.tt.charges.modify (· + 1) x.pool := rfl

theorem counterIndex_injective {c c' : Counter} (h : counterIndex c = counterIndex c') : c = c' := by
  cases c <;> cases c' <;> (try rename_i x; cases x) <;> (try rename_i y; cases y) <;> first | rfl | (simp [counterIndex] at h)

@[simp] theorem State.counter_bump (s : State) (k c : Counter) :
    (s.bump k).counter c = if c = k then s.counter k + 1 else s.counter c := by
  by_cases h : c = k
  · subst h; simp [State.bump, State.counter]
  · have h' : counterIndex c ≠ counterIndex k := fun e => h (counterIndex_injective e)
    simp [State.bump, State.counter, tget_tset, h, h']

@[simp] theorem State.irqLine_refreshIrq (s : State) : s.refreshIrq.mgmt.irqLine = s.irqLevel := rfl

/-! ## What each update leaves -/


/-! ### `State.setSlot` -/

@[simp] theorem State.setSlot_hport (s : State) (k : SlotId) (x : Option Slot) : (s.setSlot k x).hport = s.hport := rfl
@[simp] theorem State.setSlot_adm (s : State) (k : SlotId) (x : Option Slot) : (s.setSlot k x).adm = s.adm := rfl
@[simp] theorem State.setSlot_tt_charges (s : State) (k : SlotId) (x : Option Slot) : (s.setSlot k x).tt.charges = s.tt.charges := rfl
@[simp] theorem State.setSlot_tt_tagMap (s : State) (k : SlotId) (x : Option Slot) : (s.setSlot k x).tt.tagMap = s.tt.tagMap := rfl
@[simp] theorem State.setSlot_tt_holding (s : State) (k : SlotId) (x : Option Slot) : (s.setSlot k x).tt.holding = s.tt.holding := rfl
@[simp] theorem State.setSlot_mb (s : State) (k : SlotId) (x : Option Slot) : (s.setSlot k x).mb = s.mb := rfl
@[simp] theorem State.setSlot_fl (s : State) (k : SlotId) (x : Option Slot) : (s.setSlot k x).fl = s.fl := rfl
@[simp] theorem State.setSlot_es (s : State) (k : SlotId) (x : Option Slot) : (s.setSlot k x).es = s.es := rfl
@[simp] theorem State.setSlot_mport (s : State) (k : SlotId) (x : Option Slot) : (s.setSlot k x).mport = s.mport := rfl
@[simp] theorem State.setSlot_resp (s : State) (k : SlotId) (x : Option Slot) : (s.setSlot k x).resp = s.resp := rfl
@[simp] theorem State.setSlot_meter (s : State) (k : SlotId) (x : Option Slot) : (s.setSlot k x).meter = s.meter := rfl
@[simp] theorem State.setSlot_mgmt (s : State) (k : SlotId) (x : Option Slot) : (s.setSlot k x).mgmt = s.mgmt := rfl
@[simp] theorem State.setSlot_pending (s : State) (k : SlotId) (x : Option Slot) : (s.setSlot k x).pending = s.pending := rfl
@[simp] theorem State.setSlot_choices (s : State) (k : SlotId) (x : Option Slot) : (s.setSlot k x).choices = s.choices := rfl
@[simp] theorem State.setSlot_buffer (s : State) (k : SlotId) (x : Option Slot) (b : BufferId) :
    (s.setSlot k x).buffer b = s.buffer b := rfl
@[simp] theorem State.setSlot_entry (s : State) (k : SlotId) (x : Option Slot) (e : EntryId) :
    (s.setSlot k x).entry e = s.entry e := rfl
@[simp] theorem State.setSlot_record (s : State) (k : SlotId) (x : Option Slot) (src : Source) :
    (s.setSlot k x).record src = s.record src := rfl
@[simp] theorem State.setSlot_latch (s : State) (k : SlotId) (x : Option Slot) (src : Source) :
    (s.setSlot k x).latch src = s.latch src := rfl
@[simp] theorem State.setSlot_flushOrder (s : State) (k : SlotId) (x : Option Slot) (src : Source) :
    (s.setSlot k x).flushOrder src = s.flushOrder src := rfl
@[simp] theorem State.setSlot_holdingOf (s : State) (k : SlotId) (x : Option Slot) (src : Source) :
    (s.setSlot k x).holdingOf src = s.holdingOf src := rfl
@[simp] theorem State.setSlot_meterOf (s : State) (k : SlotId) (x : Option Slot) (src : Source) :
    (s.setSlot k x).meterOf src = s.meterOf src := rfl
@[simp] theorem State.setSlot_counter (s : State) (k : SlotId) (x : Option Slot) (c : Counter) :
    (s.setSlot k x).counter c = s.counter c := rfl

/-! ### `State.setBuffer` -/

@[simp] theorem State.setBuffer_hport (s : State) (k : BufferId) (x : Option Buffer) : (s.setBuffer k x).hport = s.hport := rfl
@[simp] theorem State.setBuffer_adm (s : State) (k : BufferId) (x : Option Buffer) : (s.setBuffer k x).adm = s.adm := rfl
@[simp] theorem State.setBuffer_tt (s : State) (k : BufferId) (x : Option Buffer) : (s.setBuffer k x).tt = s.tt := rfl
@[simp] theorem State.setBuffer_mb_ageOrder (s : State) (k : BufferId) (x : Option Buffer) : (s.setBuffer k x).mb.ageOrder = s.mb.ageOrder := rfl
@[simp] theorem State.setBuffer_fl (s : State) (k : BufferId) (x : Option Buffer) : (s.setBuffer k x).fl = s.fl := rfl
@[simp] theorem State.setBuffer_es (s : State) (k : BufferId) (x : Option Buffer) : (s.setBuffer k x).es = s.es := rfl
@[simp] theorem State.setBuffer_mport (s : State) (k : BufferId) (x : Option Buffer) : (s.setBuffer k x).mport = s.mport := rfl
@[simp] theorem State.setBuffer_resp (s : State) (k : BufferId) (x : Option Buffer) : (s.setBuffer k x).resp = s.resp := rfl
@[simp] theorem State.setBuffer_meter (s : State) (k : BufferId) (x : Option Buffer) : (s.setBuffer k x).meter = s.meter := rfl
@[simp] theorem State.setBuffer_mgmt (s : State) (k : BufferId) (x : Option Buffer) : (s.setBuffer k x).mgmt = s.mgmt := rfl
@[simp] theorem State.setBuffer_pending (s : State) (k : BufferId) (x : Option Buffer) : (s.setBuffer k x).pending = s.pending := rfl
@[simp] theorem State.setBuffer_choices (s : State) (k : BufferId) (x : Option Buffer) : (s.setBuffer k x).choices = s.choices := rfl
@[simp] theorem State.setBuffer_slot (s : State) (k : BufferId) (x : Option Buffer) (i : SlotId) :
    (s.setBuffer k x).slot i = s.slot i := rfl
@[simp] theorem State.setBuffer_entry (s : State) (k : BufferId) (x : Option Buffer) (e : EntryId) :
    (s.setBuffer k x).entry e = s.entry e := rfl
@[simp] theorem State.setBuffer_record (s : State) (k : BufferId) (x : Option Buffer) (src : Source) :
    (s.setBuffer k x).record src = s.record src := rfl
@[simp] theorem State.setBuffer_latch (s : State) (k : BufferId) (x : Option Buffer) (src : Source) :
    (s.setBuffer k x).latch src = s.latch src := rfl
@[simp] theorem State.setBuffer_flushOrder (s : State) (k : BufferId) (x : Option Buffer) (src : Source) :
    (s.setBuffer k x).flushOrder src = s.flushOrder src := rfl
@[simp] theorem State.setBuffer_holdingOf (s : State) (k : BufferId) (x : Option Buffer) (src : Source) :
    (s.setBuffer k x).holdingOf src = s.holdingOf src := rfl
@[simp] theorem State.setBuffer_meterOf (s : State) (k : BufferId) (x : Option Buffer) (src : Source) :
    (s.setBuffer k x).meterOf src = s.meterOf src := rfl
@[simp] theorem State.setBuffer_counter (s : State) (k : BufferId) (x : Option Buffer) (c : Counter) :
    (s.setBuffer k x).counter c = s.counter c := rfl

/-! ### `State.setEntry` -/

@[simp] theorem State.setEntry_hport (s : State) (k : EntryId) (x : Option Entry) : (s.setEntry k x).hport = s.hport := rfl
@[simp] theorem State.setEntry_adm (s : State) (k : EntryId) (x : Option Entry) : (s.setEntry k x).adm = s.adm := rfl
@[simp] theorem State.setEntry_tt (s : State) (k : EntryId) (x : Option Entry) : (s.setEntry k x).tt = s.tt := rfl
@[simp] theorem State.setEntry_mb (s : State) (k : EntryId) (x : Option Entry) : (s.setEntry k x).mb = s.mb := rfl
@[simp] theorem State.setEntry_fl (s : State) (k : EntryId) (x : Option Entry) : (s.setEntry k x).fl = s.fl := rfl
@[simp] theorem State.setEntry_mport (s : State) (k : EntryId) (x : Option Entry) : (s.setEntry k x).mport = s.mport := rfl
@[simp] theorem State.setEntry_resp (s : State) (k : EntryId) (x : Option Entry) : (s.setEntry k x).resp = s.resp := rfl
@[simp] theorem State.setEntry_meter (s : State) (k : EntryId) (x : Option Entry) : (s.setEntry k x).meter = s.meter := rfl
@[simp] theorem State.setEntry_mgmt (s : State) (k : EntryId) (x : Option Entry) : (s.setEntry k x).mgmt = s.mgmt := rfl
@[simp] theorem State.setEntry_pending (s : State) (k : EntryId) (x : Option Entry) : (s.setEntry k x).pending = s.pending := rfl
@[simp] theorem State.setEntry_choices (s : State) (k : EntryId) (x : Option Entry) : (s.setEntry k x).choices = s.choices := rfl
@[simp] theorem State.setEntry_slot (s : State) (k : EntryId) (x : Option Entry) (i : SlotId) :
    (s.setEntry k x).slot i = s.slot i := rfl
@[simp] theorem State.setEntry_buffer (s : State) (k : EntryId) (x : Option Entry) (b : BufferId) :
    (s.setEntry k x).buffer b = s.buffer b := rfl
@[simp] theorem State.setEntry_record (s : State) (k : EntryId) (x : Option Entry) (src : Source) :
    (s.setEntry k x).record src = s.record src := rfl
@[simp] theorem State.setEntry_latch (s : State) (k : EntryId) (x : Option Entry) (src : Source) :
    (s.setEntry k x).latch src = s.latch src := rfl
@[simp] theorem State.setEntry_flushOrder (s : State) (k : EntryId) (x : Option Entry) (src : Source) :
    (s.setEntry k x).flushOrder src = s.flushOrder src := rfl
@[simp] theorem State.setEntry_holdingOf (s : State) (k : EntryId) (x : Option Entry) (src : Source) :
    (s.setEntry k x).holdingOf src = s.holdingOf src := rfl
@[simp] theorem State.setEntry_meterOf (s : State) (k : EntryId) (x : Option Entry) (src : Source) :
    (s.setEntry k x).meterOf src = s.meterOf src := rfl
@[simp] theorem State.setEntry_counter (s : State) (k : EntryId) (x : Option Entry) (c : Counter) :
    (s.setEntry k x).counter c = s.counter c := rfl

/-! ### `State.setRecord` -/

@[simp] theorem State.setRecord_hport (s : State) (k : Source) (x : BundleRecord) : (s.setRecord k x).hport = s.hport := rfl
@[simp] theorem State.setRecord_adm (s : State) (k : Source) (x : BundleRecord) : (s.setRecord k x).adm = s.adm := rfl
@[simp] theorem State.setRecord_tt (s : State) (k : Source) (x : BundleRecord) : (s.setRecord k x).tt = s.tt := rfl
@[simp] theorem State.setRecord_mb (s : State) (k : Source) (x : BundleRecord) : (s.setRecord k x).mb = s.mb := rfl
@[simp] theorem State.setRecord_fl (s : State) (k : Source) (x : BundleRecord) : (s.setRecord k x).fl = s.fl := rfl
@[simp] theorem State.setRecord_es (s : State) (k : Source) (x : BundleRecord) : (s.setRecord k x).es = s.es := rfl
@[simp] theorem State.setRecord_mport (s : State) (k : Source) (x : BundleRecord) : (s.setRecord k x).mport = s.mport := rfl
@[simp] theorem State.setRecord_resp_rrl (s : State) (k : Source) (x : BundleRecord) : (s.setRecord k x).resp.rrl = s.resp.rrl := rfl
@[simp] theorem State.setRecord_resp_rq (s : State) (k : Source) (x : BundleRecord) : (s.setRecord k x).resp.rq = s.resp.rq := rfl
@[simp] theorem State.setRecord_resp_credits (s : State) (k : Source) (x : BundleRecord) : (s.setRecord k x).resp.credits = s.resp.credits := rfl
@[simp] theorem State.setRecord_meter (s : State) (k : Source) (x : BundleRecord) : (s.setRecord k x).meter = s.meter := rfl
@[simp] theorem State.setRecord_mgmt (s : State) (k : Source) (x : BundleRecord) : (s.setRecord k x).mgmt = s.mgmt := rfl
@[simp] theorem State.setRecord_pending (s : State) (k : Source) (x : BundleRecord) : (s.setRecord k x).pending = s.pending := rfl
@[simp] theorem State.setRecord_choices (s : State) (k : Source) (x : BundleRecord) : (s.setRecord k x).choices = s.choices := rfl
@[simp] theorem State.setRecord_slot (s : State) (k : Source) (x : BundleRecord) (i : SlotId) :
    (s.setRecord k x).slot i = s.slot i := rfl
@[simp] theorem State.setRecord_buffer (s : State) (k : Source) (x : BundleRecord) (b : BufferId) :
    (s.setRecord k x).buffer b = s.buffer b := rfl
@[simp] theorem State.setRecord_entry (s : State) (k : Source) (x : BundleRecord) (e : EntryId) :
    (s.setRecord k x).entry e = s.entry e := rfl
@[simp] theorem State.setRecord_latch (s : State) (k : Source) (x : BundleRecord) (src : Source) :
    (s.setRecord k x).latch src = s.latch src := rfl
@[simp] theorem State.setRecord_flushOrder (s : State) (k : Source) (x : BundleRecord) (src : Source) :
    (s.setRecord k x).flushOrder src = s.flushOrder src := rfl
@[simp] theorem State.setRecord_holdingOf (s : State) (k : Source) (x : BundleRecord) (src : Source) :
    (s.setRecord k x).holdingOf src = s.holdingOf src := rfl
@[simp] theorem State.setRecord_meterOf (s : State) (k : Source) (x : BundleRecord) (src : Source) :
    (s.setRecord k x).meterOf src = s.meterOf src := rfl
@[simp] theorem State.setRecord_counter (s : State) (k : Source) (x : BundleRecord) (c : Counter) :
    (s.setRecord k x).counter c = s.counter c := rfl

/-! ### `State.setLatch` -/

@[simp] theorem State.setLatch_hport (s : State) (k : Source) (x : Bool) : (s.setLatch k x).hport = s.hport := rfl
@[simp] theorem State.setLatch_adm (s : State) (k : Source) (x : Bool) : (s.setLatch k x).adm = s.adm := rfl
@[simp] theorem State.setLatch_tt (s : State) (k : Source) (x : Bool) : (s.setLatch k x).tt = s.tt := rfl
@[simp] theorem State.setLatch_mb (s : State) (k : Source) (x : Bool) : (s.setLatch k x).mb = s.mb := rfl
@[simp] theorem State.setLatch_fl_order (s : State) (k : Source) (x : Bool) : (s.setLatch k x).fl.order = s.fl.order := rfl
@[simp] theorem State.setLatch_es (s : State) (k : Source) (x : Bool) : (s.setLatch k x).es = s.es := rfl
@[simp] theorem State.setLatch_mport (s : State) (k : Source) (x : Bool) : (s.setLatch k x).mport = s.mport := rfl
@[simp] theorem State.setLatch_resp (s : State) (k : Source) (x : Bool) : (s.setLatch k x).resp = s.resp := rfl
@[simp] theorem State.setLatch_meter (s : State) (k : Source) (x : Bool) : (s.setLatch k x).meter = s.meter := rfl
@[simp] theorem State.setLatch_mgmt (s : State) (k : Source) (x : Bool) : (s.setLatch k x).mgmt = s.mgmt := rfl
@[simp] theorem State.setLatch_pending (s : State) (k : Source) (x : Bool) : (s.setLatch k x).pending = s.pending := rfl
@[simp] theorem State.setLatch_choices (s : State) (k : Source) (x : Bool) : (s.setLatch k x).choices = s.choices := rfl
@[simp] theorem State.setLatch_slot (s : State) (k : Source) (x : Bool) (i : SlotId) :
    (s.setLatch k x).slot i = s.slot i := rfl
@[simp] theorem State.setLatch_buffer (s : State) (k : Source) (x : Bool) (b : BufferId) :
    (s.setLatch k x).buffer b = s.buffer b := rfl
@[simp] theorem State.setLatch_entry (s : State) (k : Source) (x : Bool) (e : EntryId) :
    (s.setLatch k x).entry e = s.entry e := rfl
@[simp] theorem State.setLatch_record (s : State) (k : Source) (x : Bool) (src : Source) :
    (s.setLatch k x).record src = s.record src := rfl
@[simp] theorem State.setLatch_flushOrder (s : State) (k : Source) (x : Bool) (src : Source) :
    (s.setLatch k x).flushOrder src = s.flushOrder src := rfl
@[simp] theorem State.setLatch_holdingOf (s : State) (k : Source) (x : Bool) (src : Source) :
    (s.setLatch k x).holdingOf src = s.holdingOf src := rfl
@[simp] theorem State.setLatch_meterOf (s : State) (k : Source) (x : Bool) (src : Source) :
    (s.setLatch k x).meterOf src = s.meterOf src := rfl
@[simp] theorem State.setLatch_counter (s : State) (k : Source) (x : Bool) (c : Counter) :
    (s.setLatch k x).counter c = s.counter c := rfl

/-! ### `State.setFlushOrder` -/

@[simp] theorem State.setFlushOrder_hport (s : State) (k : Source) (x : List SlotId) : (s.setFlushOrder k x).hport = s.hport := rfl
@[simp] theorem State.setFlushOrder_adm (s : State) (k : Source) (x : List SlotId) : (s.setFlushOrder k x).adm = s.adm := rfl
@[simp] theorem State.setFlushOrder_tt (s : State) (k : Source) (x : List SlotId) : (s.setFlushOrder k x).tt = s.tt := rfl
@[simp] theorem State.setFlushOrder_mb (s : State) (k : Source) (x : List SlotId) : (s.setFlushOrder k x).mb = s.mb := rfl
@[simp] theorem State.setFlushOrder_fl_latches (s : State) (k : Source) (x : List SlotId) : (s.setFlushOrder k x).fl.latches = s.fl.latches := rfl
@[simp] theorem State.setFlushOrder_es (s : State) (k : Source) (x : List SlotId) : (s.setFlushOrder k x).es = s.es := rfl
@[simp] theorem State.setFlushOrder_mport (s : State) (k : Source) (x : List SlotId) : (s.setFlushOrder k x).mport = s.mport := rfl
@[simp] theorem State.setFlushOrder_resp (s : State) (k : Source) (x : List SlotId) : (s.setFlushOrder k x).resp = s.resp := rfl
@[simp] theorem State.setFlushOrder_meter (s : State) (k : Source) (x : List SlotId) : (s.setFlushOrder k x).meter = s.meter := rfl
@[simp] theorem State.setFlushOrder_mgmt (s : State) (k : Source) (x : List SlotId) : (s.setFlushOrder k x).mgmt = s.mgmt := rfl
@[simp] theorem State.setFlushOrder_pending (s : State) (k : Source) (x : List SlotId) : (s.setFlushOrder k x).pending = s.pending := rfl
@[simp] theorem State.setFlushOrder_choices (s : State) (k : Source) (x : List SlotId) : (s.setFlushOrder k x).choices = s.choices := rfl
@[simp] theorem State.setFlushOrder_slot (s : State) (k : Source) (x : List SlotId) (i : SlotId) :
    (s.setFlushOrder k x).slot i = s.slot i := rfl
@[simp] theorem State.setFlushOrder_buffer (s : State) (k : Source) (x : List SlotId) (b : BufferId) :
    (s.setFlushOrder k x).buffer b = s.buffer b := rfl
@[simp] theorem State.setFlushOrder_entry (s : State) (k : Source) (x : List SlotId) (e : EntryId) :
    (s.setFlushOrder k x).entry e = s.entry e := rfl
@[simp] theorem State.setFlushOrder_record (s : State) (k : Source) (x : List SlotId) (src : Source) :
    (s.setFlushOrder k x).record src = s.record src := rfl
@[simp] theorem State.setFlushOrder_latch (s : State) (k : Source) (x : List SlotId) (src : Source) :
    (s.setFlushOrder k x).latch src = s.latch src := rfl
@[simp] theorem State.setFlushOrder_holdingOf (s : State) (k : Source) (x : List SlotId) (src : Source) :
    (s.setFlushOrder k x).holdingOf src = s.holdingOf src := rfl
@[simp] theorem State.setFlushOrder_meterOf (s : State) (k : Source) (x : List SlotId) (src : Source) :
    (s.setFlushOrder k x).meterOf src = s.meterOf src := rfl
@[simp] theorem State.setFlushOrder_counter (s : State) (k : Source) (x : List SlotId) (c : Counter) :
    (s.setFlushOrder k x).counter c = s.counter c := rfl

/-! ### `State.setHolding` -/

@[simp] theorem State.setHolding_hport (s : State) (k : Source) (x : Nat) : (s.setHolding k x).hport = s.hport := rfl
@[simp] theorem State.setHolding_adm (s : State) (k : Source) (x : Nat) : (s.setHolding k x).adm = s.adm := rfl
@[simp] theorem State.setHolding_tt_slots (s : State) (k : Source) (x : Nat) : (s.setHolding k x).tt.slots = s.tt.slots := rfl
@[simp] theorem State.setHolding_tt_charges (s : State) (k : Source) (x : Nat) : (s.setHolding k x).tt.charges = s.tt.charges := rfl
@[simp] theorem State.setHolding_tt_tagMap (s : State) (k : Source) (x : Nat) : (s.setHolding k x).tt.tagMap = s.tt.tagMap := rfl
@[simp] theorem State.setHolding_mb (s : State) (k : Source) (x : Nat) : (s.setHolding k x).mb = s.mb := rfl
@[simp] theorem State.setHolding_fl (s : State) (k : Source) (x : Nat) : (s.setHolding k x).fl = s.fl := rfl
@[simp] theorem State.setHolding_es (s : State) (k : Source) (x : Nat) : (s.setHolding k x).es = s.es := rfl
@[simp] theorem State.setHolding_mport (s : State) (k : Source) (x : Nat) : (s.setHolding k x).mport = s.mport := rfl
@[simp] theorem State.setHolding_resp (s : State) (k : Source) (x : Nat) : (s.setHolding k x).resp = s.resp := rfl
@[simp] theorem State.setHolding_meter (s : State) (k : Source) (x : Nat) : (s.setHolding k x).meter = s.meter := rfl
@[simp] theorem State.setHolding_mgmt (s : State) (k : Source) (x : Nat) : (s.setHolding k x).mgmt = s.mgmt := rfl
@[simp] theorem State.setHolding_pending (s : State) (k : Source) (x : Nat) : (s.setHolding k x).pending = s.pending := rfl
@[simp] theorem State.setHolding_choices (s : State) (k : Source) (x : Nat) : (s.setHolding k x).choices = s.choices := rfl
@[simp] theorem State.setHolding_slot (s : State) (k : Source) (x : Nat) (i : SlotId) :
    (s.setHolding k x).slot i = s.slot i := rfl
@[simp] theorem State.setHolding_buffer (s : State) (k : Source) (x : Nat) (b : BufferId) :
    (s.setHolding k x).buffer b = s.buffer b := rfl
@[simp] theorem State.setHolding_entry (s : State) (k : Source) (x : Nat) (e : EntryId) :
    (s.setHolding k x).entry e = s.entry e := rfl
@[simp] theorem State.setHolding_record (s : State) (k : Source) (x : Nat) (src : Source) :
    (s.setHolding k x).record src = s.record src := rfl
@[simp] theorem State.setHolding_latch (s : State) (k : Source) (x : Nat) (src : Source) :
    (s.setHolding k x).latch src = s.latch src := rfl
@[simp] theorem State.setHolding_flushOrder (s : State) (k : Source) (x : Nat) (src : Source) :
    (s.setHolding k x).flushOrder src = s.flushOrder src := rfl
@[simp] theorem State.setHolding_meterOf (s : State) (k : Source) (x : Nat) (src : Source) :
    (s.setHolding k x).meterOf src = s.meterOf src := rfl
@[simp] theorem State.setHolding_counter (s : State) (k : Source) (x : Nat) (c : Counter) :
    (s.setHolding k x).counter c = s.counter c := rfl

/-! ### `State.setMeter` -/

@[simp] theorem State.setMeter_hport (s : State) (k : Source) (x : Meter) : (s.setMeter k x).hport = s.hport := rfl
@[simp] theorem State.setMeter_adm (s : State) (k : Source) (x : Meter) : (s.setMeter k x).adm = s.adm := rfl
@[simp] theorem State.setMeter_tt (s : State) (k : Source) (x : Meter) : (s.setMeter k x).tt = s.tt := rfl
@[simp] theorem State.setMeter_mb (s : State) (k : Source) (x : Meter) : (s.setMeter k x).mb = s.mb := rfl
@[simp] theorem State.setMeter_fl (s : State) (k : Source) (x : Meter) : (s.setMeter k x).fl = s.fl := rfl
@[simp] theorem State.setMeter_es (s : State) (k : Source) (x : Meter) : (s.setMeter k x).es = s.es := rfl
@[simp] theorem State.setMeter_mport (s : State) (k : Source) (x : Meter) : (s.setMeter k x).mport = s.mport := rfl
@[simp] theorem State.setMeter_resp (s : State) (k : Source) (x : Meter) : (s.setMeter k x).resp = s.resp := rfl
@[simp] theorem State.setMeter_meter_sampleTimer (s : State) (k : Source) (x : Meter) : (s.setMeter k x).meter.sampleTimer = s.meter.sampleTimer := rfl
@[simp] theorem State.setMeter_meter_sampleCount (s : State) (k : Source) (x : Meter) : (s.setMeter k x).meter.sampleCount = s.meter.sampleCount := rfl
@[simp] theorem State.setMeter_mgmt (s : State) (k : Source) (x : Meter) : (s.setMeter k x).mgmt = s.mgmt := rfl
@[simp] theorem State.setMeter_pending (s : State) (k : Source) (x : Meter) : (s.setMeter k x).pending = s.pending := rfl
@[simp] theorem State.setMeter_choices (s : State) (k : Source) (x : Meter) : (s.setMeter k x).choices = s.choices := rfl
@[simp] theorem State.setMeter_slot (s : State) (k : Source) (x : Meter) (i : SlotId) :
    (s.setMeter k x).slot i = s.slot i := rfl
@[simp] theorem State.setMeter_buffer (s : State) (k : Source) (x : Meter) (b : BufferId) :
    (s.setMeter k x).buffer b = s.buffer b := rfl
@[simp] theorem State.setMeter_entry (s : State) (k : Source) (x : Meter) (e : EntryId) :
    (s.setMeter k x).entry e = s.entry e := rfl
@[simp] theorem State.setMeter_record (s : State) (k : Source) (x : Meter) (src : Source) :
    (s.setMeter k x).record src = s.record src := rfl
@[simp] theorem State.setMeter_latch (s : State) (k : Source) (x : Meter) (src : Source) :
    (s.setMeter k x).latch src = s.latch src := rfl
@[simp] theorem State.setMeter_flushOrder (s : State) (k : Source) (x : Meter) (src : Source) :
    (s.setMeter k x).flushOrder src = s.flushOrder src := rfl
@[simp] theorem State.setMeter_holdingOf (s : State) (k : Source) (x : Meter) (src : Source) :
    (s.setMeter k x).holdingOf src = s.holdingOf src := rfl
@[simp] theorem State.setMeter_counter (s : State) (k : Source) (x : Meter) (c : Counter) :
    (s.setMeter k x).counter c = s.counter c := rfl

/-! ### `State.pushIq` -/

@[simp] theorem State.pushIq_hport (s : State) (r : IqRef) : (s.pushIq r).hport = s.hport := rfl
@[simp] theorem State.pushIq_adm (s : State) (r : IqRef) : (s.pushIq r).adm = s.adm := rfl
@[simp] theorem State.pushIq_tt (s : State) (r : IqRef) : (s.pushIq r).tt = s.tt := rfl
@[simp] theorem State.pushIq_mb (s : State) (r : IqRef) : (s.pushIq r).mb = s.mb := rfl
@[simp] theorem State.pushIq_fl (s : State) (r : IqRef) : (s.pushIq r).fl = s.fl := rfl
@[simp] theorem State.pushIq_es (s : State) (r : IqRef) : (s.pushIq r).es = s.es := rfl
@[simp] theorem State.pushIq_mport_up (s : State) (r : IqRef) : (s.pushIq r).mport.up = s.mport.up := rfl
@[simp] theorem State.pushIq_mport_credits (s : State) (r : IqRef) : (s.pushIq r).mport.credits = s.mport.credits := rfl
@[simp] theorem State.pushIq_mport_outstanding (s : State) (r : IqRef) : (s.pushIq r).mport.outstanding = s.mport.outstanding := rfl
@[simp] theorem State.pushIq_mport_orphaned (s : State) (r : IqRef) : (s.pushIq r).mport.orphaned = s.mport.orphaned := rfl
@[simp] theorem State.pushIq_mport_sent (s : State) (r : IqRef) : (s.pushIq r).mport.sent = s.mport.sent := rfl
@[simp] theorem State.pushIq_mport_restarts (s : State) (r : IqRef) : (s.pushIq r).mport.restarts = s.mport.restarts := rfl
@[simp] theorem State.pushIq_resp (s : State) (r : IqRef) : (s.pushIq r).resp = s.resp := rfl
@[simp] theorem State.pushIq_meter (s : State) (r : IqRef) : (s.pushIq r).meter = s.meter := rfl
@[simp] theorem State.pushIq_mgmt (s : State) (r : IqRef) : (s.pushIq r).mgmt = s.mgmt := rfl
@[simp] theorem State.pushIq_pending (s : State) (r : IqRef) : (s.pushIq r).pending = s.pending := rfl
@[simp] theorem State.pushIq_choices (s : State) (r : IqRef) : (s.pushIq r).choices = s.choices := rfl
@[simp] theorem State.pushIq_slot (s : State) (r : IqRef) (i : SlotId) : (s.pushIq r).slot i = s.slot i := rfl
@[simp] theorem State.pushIq_buffer (s : State) (r : IqRef) (b : BufferId) : (s.pushIq r).buffer b = s.buffer b := rfl
@[simp] theorem State.pushIq_entry (s : State) (r : IqRef) (e : EntryId) : (s.pushIq r).entry e = s.entry e := rfl
@[simp] theorem State.pushIq_record (s : State) (r : IqRef) (src : Source) :
    (s.pushIq r).record src = s.record src := rfl
@[simp] theorem State.pushIq_latch (s : State) (r : IqRef) (src : Source) :
    (s.pushIq r).latch src = s.latch src := rfl
@[simp] theorem State.pushIq_flushOrder (s : State) (r : IqRef) (src : Source) :
    (s.pushIq r).flushOrder src = s.flushOrder src := rfl
@[simp] theorem State.pushIq_holdingOf (s : State) (r : IqRef) (src : Source) :
    (s.pushIq r).holdingOf src = s.holdingOf src := rfl
@[simp] theorem State.pushIq_meterOf (s : State) (r : IqRef) (src : Source) :
    (s.pushIq r).meterOf src = s.meterOf src := rfl
@[simp] theorem State.pushIq_counter (s : State) (r : IqRef) (c : Counter) :
    (s.pushIq r).counter c = s.counter c := rfl

/-! ### `State.pushRrl` -/

@[simp] theorem State.pushRrl_hport (s : State) (r : RrlRef) : (s.pushRrl r).hport = s.hport := rfl
@[simp] theorem State.pushRrl_adm (s : State) (r : RrlRef) : (s.pushRrl r).adm = s.adm := rfl
@[simp] theorem State.pushRrl_tt (s : State) (r : RrlRef) : (s.pushRrl r).tt = s.tt := rfl
@[simp] theorem State.pushRrl_mb (s : State) (r : RrlRef) : (s.pushRrl r).mb = s.mb := rfl
@[simp] theorem State.pushRrl_fl (s : State) (r : RrlRef) : (s.pushRrl r).fl = s.fl := rfl
@[simp] theorem State.pushRrl_es (s : State) (r : RrlRef) : (s.pushRrl r).es = s.es := rfl
@[simp] theorem State.pushRrl_mport (s : State) (r : RrlRef) : (s.pushRrl r).mport = s.mport := rfl
@[simp] theorem State.pushRrl_resp_records (s : State) (r : RrlRef) : (s.pushRrl r).resp.records = s.resp.records := rfl
@[simp] theorem State.pushRrl_resp_rq (s : State) (r : RrlRef) : (s.pushRrl r).resp.rq = s.resp.rq := rfl
@[simp] theorem State.pushRrl_resp_credits (s : State) (r : RrlRef) : (s.pushRrl r).resp.credits = s.resp.credits := rfl
@[simp] theorem State.pushRrl_meter (s : State) (r : RrlRef) : (s.pushRrl r).meter = s.meter := rfl
@[simp] theorem State.pushRrl_mgmt (s : State) (r : RrlRef) : (s.pushRrl r).mgmt = s.mgmt := rfl
@[simp] theorem State.pushRrl_pending (s : State) (r : RrlRef) : (s.pushRrl r).pending = s.pending := rfl
@[simp] theorem State.pushRrl_choices (s : State) (r : RrlRef) : (s.pushRrl r).choices = s.choices := rfl
@[simp] theorem State.pushRrl_slot (s : State) (r : RrlRef) (i : SlotId) : (s.pushRrl r).slot i = s.slot i := rfl
@[simp] theorem State.pushRrl_buffer (s : State) (r : RrlRef) (b : BufferId) :
    (s.pushRrl r).buffer b = s.buffer b := rfl
@[simp] theorem State.pushRrl_entry (s : State) (r : RrlRef) (e : EntryId) : (s.pushRrl r).entry e = s.entry e := rfl
@[simp] theorem State.pushRrl_record (s : State) (r : RrlRef) (src : Source) :
    (s.pushRrl r).record src = s.record src := rfl
@[simp] theorem State.pushRrl_latch (s : State) (r : RrlRef) (src : Source) :
    (s.pushRrl r).latch src = s.latch src := rfl
@[simp] theorem State.pushRrl_flushOrder (s : State) (r : RrlRef) (src : Source) :
    (s.pushRrl r).flushOrder src = s.flushOrder src := rfl
@[simp] theorem State.pushRrl_holdingOf (s : State) (r : RrlRef) (src : Source) :
    (s.pushRrl r).holdingOf src = s.holdingOf src := rfl
@[simp] theorem State.pushRrl_meterOf (s : State) (r : RrlRef) (src : Source) :
    (s.pushRrl r).meterOf src = s.meterOf src := rfl
@[simp] theorem State.pushRrl_counter (s : State) (r : RrlRef) (c : Counter) :
    (s.pushRrl r).counter c = s.counter c := rfl

/-! ### `State.pushRq` -/

@[simp] theorem State.pushRq_hport (s : State) (m : Response) : (s.pushRq m).hport = s.hport := rfl
@[simp] theorem State.pushRq_adm (s : State) (m : Response) : (s.pushRq m).adm = s.adm := rfl
@[simp] theorem State.pushRq_tt (s : State) (m : Response) : (s.pushRq m).tt = s.tt := rfl
@[simp] theorem State.pushRq_mb (s : State) (m : Response) : (s.pushRq m).mb = s.mb := rfl
@[simp] theorem State.pushRq_fl (s : State) (m : Response) : (s.pushRq m).fl = s.fl := rfl
@[simp] theorem State.pushRq_es (s : State) (m : Response) : (s.pushRq m).es = s.es := rfl
@[simp] theorem State.pushRq_mport (s : State) (m : Response) : (s.pushRq m).mport = s.mport := rfl
@[simp] theorem State.pushRq_resp_records (s : State) (m : Response) : (s.pushRq m).resp.records = s.resp.records := rfl
@[simp] theorem State.pushRq_resp_rrl (s : State) (m : Response) : (s.pushRq m).resp.rrl = s.resp.rrl := rfl
@[simp] theorem State.pushRq_resp_credits (s : State) (m : Response) : (s.pushRq m).resp.credits = s.resp.credits := rfl
@[simp] theorem State.pushRq_meter (s : State) (m : Response) : (s.pushRq m).meter = s.meter := rfl
@[simp] theorem State.pushRq_mgmt (s : State) (m : Response) : (s.pushRq m).mgmt = s.mgmt := rfl
@[simp] theorem State.pushRq_pending (s : State) (m : Response) : (s.pushRq m).pending = s.pending := rfl
@[simp] theorem State.pushRq_choices (s : State) (m : Response) : (s.pushRq m).choices = s.choices := rfl
@[simp] theorem State.pushRq_slot (s : State) (m : Response) (i : SlotId) : (s.pushRq m).slot i = s.slot i := rfl
@[simp] theorem State.pushRq_buffer (s : State) (m : Response) (b : BufferId) :
    (s.pushRq m).buffer b = s.buffer b := rfl
@[simp] theorem State.pushRq_entry (s : State) (m : Response) (e : EntryId) : (s.pushRq m).entry e = s.entry e := rfl
@[simp] theorem State.pushRq_record (s : State) (m : Response) (src : Source) :
    (s.pushRq m).record src = s.record src := rfl
@[simp] theorem State.pushRq_latch (s : State) (m : Response) (src : Source) :
    (s.pushRq m).latch src = s.latch src := rfl
@[simp] theorem State.pushRq_flushOrder (s : State) (m : Response) (src : Source) :
    (s.pushRq m).flushOrder src = s.flushOrder src := rfl
@[simp] theorem State.pushRq_holdingOf (s : State) (m : Response) (src : Source) :
    (s.pushRq m).holdingOf src = s.holdingOf src := rfl
@[simp] theorem State.pushRq_meterOf (s : State) (m : Response) (src : Source) :
    (s.pushRq m).meterOf src = s.meterOf src := rfl
@[simp] theorem State.pushRq_counter (s : State) (m : Response) (c : Counter) :
    (s.pushRq m).counter c = s.counter c := rfl

/-! ### `State.sendHost` -/

@[simp] theorem State.sendHost_hport_up (s : State) (m : HostMsg) : (s.sendHost m).hport.up = s.hport.up := rfl
@[simp] theorem State.sendHost_hport_readLane (s : State) (m : HostMsg) : (s.sendHost m).hport.readLane = s.hport.readLane := rfl
@[simp] theorem State.sendHost_hport_writeLane (s : State) (m : HostMsg) : (s.sendHost m).hport.writeLane = s.hport.writeLane := rfl
@[simp] theorem State.sendHost_hport_flushLane (s : State) (m : HostMsg) : (s.sendHost m).hport.flushLane = s.hport.flushLane := rfl
@[simp] theorem State.sendHost_hport_readCredits (s : State) (m : HostMsg) : (s.sendHost m).hport.readCredits = s.hport.readCredits := rfl
@[simp] theorem State.sendHost_hport_writeCredits (s : State) (m : HostMsg) : (s.sendHost m).hport.writeCredits = s.hport.writeCredits := rfl
@[simp] theorem State.sendHost_hport_flushCredits (s : State) (m : HostMsg) : (s.sendHost m).hport.flushCredits = s.hport.flushCredits := rfl
@[simp] theorem State.sendHost_hport_arrivals (s : State) (m : HostMsg) : (s.sendHost m).hport.arrivals = s.hport.arrivals := rfl
@[simp] theorem State.sendHost_hport_restarts (s : State) (m : HostMsg) : (s.sendHost m).hport.restarts = s.hport.restarts := rfl
@[simp] theorem State.sendHost_adm (s : State) (m : HostMsg) : (s.sendHost m).adm = s.adm := rfl
@[simp] theorem State.sendHost_tt (s : State) (m : HostMsg) : (s.sendHost m).tt = s.tt := rfl
@[simp] theorem State.sendHost_mb (s : State) (m : HostMsg) : (s.sendHost m).mb = s.mb := rfl
@[simp] theorem State.sendHost_fl (s : State) (m : HostMsg) : (s.sendHost m).fl = s.fl := rfl
@[simp] theorem State.sendHost_es (s : State) (m : HostMsg) : (s.sendHost m).es = s.es := rfl
@[simp] theorem State.sendHost_mport (s : State) (m : HostMsg) : (s.sendHost m).mport = s.mport := rfl
@[simp] theorem State.sendHost_resp (s : State) (m : HostMsg) : (s.sendHost m).resp = s.resp := rfl
@[simp] theorem State.sendHost_meter (s : State) (m : HostMsg) : (s.sendHost m).meter = s.meter := rfl
@[simp] theorem State.sendHost_mgmt (s : State) (m : HostMsg) : (s.sendHost m).mgmt = s.mgmt := rfl
@[simp] theorem State.sendHost_pending (s : State) (m : HostMsg) : (s.sendHost m).pending = s.pending := rfl
@[simp] theorem State.sendHost_choices (s : State) (m : HostMsg) : (s.sendHost m).choices = s.choices := rfl
@[simp] theorem State.sendHost_slot (s : State) (m : HostMsg) (i : SlotId) : (s.sendHost m).slot i = s.slot i := rfl
@[simp] theorem State.sendHost_buffer (s : State) (m : HostMsg) (b : BufferId) :
    (s.sendHost m).buffer b = s.buffer b := rfl
@[simp] theorem State.sendHost_entry (s : State) (m : HostMsg) (e : EntryId) :
    (s.sendHost m).entry e = s.entry e := rfl
@[simp] theorem State.sendHost_record (s : State) (m : HostMsg) (src : Source) :
    (s.sendHost m).record src = s.record src := rfl
@[simp] theorem State.sendHost_latch (s : State) (m : HostMsg) (src : Source) :
    (s.sendHost m).latch src = s.latch src := rfl
@[simp] theorem State.sendHost_flushOrder (s : State) (m : HostMsg) (src : Source) :
    (s.sendHost m).flushOrder src = s.flushOrder src := rfl
@[simp] theorem State.sendHost_holdingOf (s : State) (m : HostMsg) (src : Source) :
    (s.sendHost m).holdingOf src = s.holdingOf src := rfl
@[simp] theorem State.sendHost_meterOf (s : State) (m : HostMsg) (src : Source) :
    (s.sendHost m).meterOf src = s.meterOf src := rfl
@[simp] theorem State.sendHost_counter (s : State) (m : HostMsg) (c : Counter) :
    (s.sendHost m).counter c = s.counter c := rfl

/-! ### `State.sendMem` -/

@[simp] theorem State.sendMem_hport (s : State) (m : MemMsg) : (s.sendMem m).hport = s.hport := rfl
@[simp] theorem State.sendMem_adm (s : State) (m : MemMsg) : (s.sendMem m).adm = s.adm := rfl
@[simp] theorem State.sendMem_tt (s : State) (m : MemMsg) : (s.sendMem m).tt = s.tt := rfl
@[simp] theorem State.sendMem_mb (s : State) (m : MemMsg) : (s.sendMem m).mb = s.mb := rfl
@[simp] theorem State.sendMem_fl (s : State) (m : MemMsg) : (s.sendMem m).fl = s.fl := rfl
@[simp] theorem State.sendMem_es (s : State) (m : MemMsg) : (s.sendMem m).es = s.es := rfl
@[simp] theorem State.sendMem_mport_up (s : State) (m : MemMsg) : (s.sendMem m).mport.up = s.mport.up := rfl
@[simp] theorem State.sendMem_mport_credits (s : State) (m : MemMsg) : (s.sendMem m).mport.credits = s.mport.credits := rfl
@[simp] theorem State.sendMem_mport_iq (s : State) (m : MemMsg) : (s.sendMem m).mport.iq = s.mport.iq := rfl
@[simp] theorem State.sendMem_mport_outstanding (s : State) (m : MemMsg) : (s.sendMem m).mport.outstanding = s.mport.outstanding := rfl
@[simp] theorem State.sendMem_mport_orphaned (s : State) (m : MemMsg) : (s.sendMem m).mport.orphaned = s.mport.orphaned := rfl
@[simp] theorem State.sendMem_mport_restarts (s : State) (m : MemMsg) : (s.sendMem m).mport.restarts = s.mport.restarts := rfl
@[simp] theorem State.sendMem_resp (s : State) (m : MemMsg) : (s.sendMem m).resp = s.resp := rfl
@[simp] theorem State.sendMem_meter (s : State) (m : MemMsg) : (s.sendMem m).meter = s.meter := rfl
@[simp] theorem State.sendMem_mgmt (s : State) (m : MemMsg) : (s.sendMem m).mgmt = s.mgmt := rfl
@[simp] theorem State.sendMem_pending (s : State) (m : MemMsg) : (s.sendMem m).pending = s.pending := rfl
@[simp] theorem State.sendMem_choices (s : State) (m : MemMsg) : (s.sendMem m).choices = s.choices := rfl
@[simp] theorem State.sendMem_slot (s : State) (m : MemMsg) (i : SlotId) : (s.sendMem m).slot i = s.slot i := rfl
@[simp] theorem State.sendMem_buffer (s : State) (m : MemMsg) (b : BufferId) :
    (s.sendMem m).buffer b = s.buffer b := rfl
@[simp] theorem State.sendMem_entry (s : State) (m : MemMsg) (e : EntryId) : (s.sendMem m).entry e = s.entry e := rfl
@[simp] theorem State.sendMem_record (s : State) (m : MemMsg) (src : Source) :
    (s.sendMem m).record src = s.record src := rfl
@[simp] theorem State.sendMem_latch (s : State) (m : MemMsg) (src : Source) :
    (s.sendMem m).latch src = s.latch src := rfl
@[simp] theorem State.sendMem_flushOrder (s : State) (m : MemMsg) (src : Source) :
    (s.sendMem m).flushOrder src = s.flushOrder src := rfl
@[simp] theorem State.sendMem_holdingOf (s : State) (m : MemMsg) (src : Source) :
    (s.sendMem m).holdingOf src = s.holdingOf src := rfl
@[simp] theorem State.sendMem_meterOf (s : State) (m : MemMsg) (src : Source) :
    (s.sendMem m).meterOf src = s.meterOf src := rfl
@[simp] theorem State.sendMem_counter (s : State) (m : MemMsg) (c : Counter) :
    (s.sendMem m).counter c = s.counter c := rfl

/-! ### `State.dtagFree` -/

@[simp] theorem State.dtagFree_hport (s : State) (d : Dtag) : (s.dtagFree d).hport = s.hport := rfl
@[simp] theorem State.dtagFree_adm (s : State) (d : Dtag) : (s.dtagFree d).adm = s.adm := rfl
@[simp] theorem State.dtagFree_tt (s : State) (d : Dtag) : (s.dtagFree d).tt = s.tt := rfl
@[simp] theorem State.dtagFree_mb (s : State) (d : Dtag) : (s.dtagFree d).mb = s.mb := rfl
@[simp] theorem State.dtagFree_fl (s : State) (d : Dtag) : (s.dtagFree d).fl = s.fl := rfl
@[simp] theorem State.dtagFree_es (s : State) (d : Dtag) : (s.dtagFree d).es = s.es := rfl
@[simp] theorem State.dtagFree_mport_up (s : State) (d : Dtag) : (s.dtagFree d).mport.up = s.mport.up := rfl
@[simp] theorem State.dtagFree_mport_credits (s : State) (d : Dtag) : (s.dtagFree d).mport.credits = s.mport.credits := rfl
@[simp] theorem State.dtagFree_mport_iq (s : State) (d : Dtag) : (s.dtagFree d).mport.iq = s.mport.iq := rfl
@[simp] theorem State.dtagFree_mport_sent (s : State) (d : Dtag) : (s.dtagFree d).mport.sent = s.mport.sent := rfl
@[simp] theorem State.dtagFree_mport_restarts (s : State) (d : Dtag) : (s.dtagFree d).mport.restarts = s.mport.restarts := rfl
@[simp] theorem State.dtagFree_resp (s : State) (d : Dtag) : (s.dtagFree d).resp = s.resp := rfl
@[simp] theorem State.dtagFree_meter (s : State) (d : Dtag) : (s.dtagFree d).meter = s.meter := rfl
@[simp] theorem State.dtagFree_mgmt (s : State) (d : Dtag) : (s.dtagFree d).mgmt = s.mgmt := rfl
@[simp] theorem State.dtagFree_pending (s : State) (d : Dtag) : (s.dtagFree d).pending = s.pending := rfl
@[simp] theorem State.dtagFree_choices (s : State) (d : Dtag) : (s.dtagFree d).choices = s.choices := rfl
@[simp] theorem State.dtagFree_slot (s : State) (d : Dtag) (i : SlotId) : (s.dtagFree d).slot i = s.slot i := rfl
@[simp] theorem State.dtagFree_buffer (s : State) (d : Dtag) (b : BufferId) :
    (s.dtagFree d).buffer b = s.buffer b := rfl
@[simp] theorem State.dtagFree_entry (s : State) (d : Dtag) (e : EntryId) : (s.dtagFree d).entry e = s.entry e := rfl
@[simp] theorem State.dtagFree_record (s : State) (d : Dtag) (src : Source) :
    (s.dtagFree d).record src = s.record src := rfl
@[simp] theorem State.dtagFree_latch (s : State) (d : Dtag) (src : Source) :
    (s.dtagFree d).latch src = s.latch src := rfl
@[simp] theorem State.dtagFree_flushOrder (s : State) (d : Dtag) (src : Source) :
    (s.dtagFree d).flushOrder src = s.flushOrder src := rfl
@[simp] theorem State.dtagFree_holdingOf (s : State) (d : Dtag) (src : Source) :
    (s.dtagFree d).holdingOf src = s.holdingOf src := rfl
@[simp] theorem State.dtagFree_meterOf (s : State) (d : Dtag) (src : Source) :
    (s.dtagFree d).meterOf src = s.meterOf src := rfl
@[simp] theorem State.dtagFree_counter (s : State) (d : Dtag) (c : Counter) :
    (s.dtagFree d).counter c = s.counter c := rfl

/-! ### `State.dtagOrphan` -/

@[simp] theorem State.dtagOrphan_hport (s : State) (d : Dtag) : (s.dtagOrphan d).hport = s.hport := rfl
@[simp] theorem State.dtagOrphan_adm (s : State) (d : Dtag) : (s.dtagOrphan d).adm = s.adm := rfl
@[simp] theorem State.dtagOrphan_tt (s : State) (d : Dtag) : (s.dtagOrphan d).tt = s.tt := rfl
@[simp] theorem State.dtagOrphan_mb (s : State) (d : Dtag) : (s.dtagOrphan d).mb = s.mb := rfl
@[simp] theorem State.dtagOrphan_fl (s : State) (d : Dtag) : (s.dtagOrphan d).fl = s.fl := rfl
@[simp] theorem State.dtagOrphan_es (s : State) (d : Dtag) : (s.dtagOrphan d).es = s.es := rfl
@[simp] theorem State.dtagOrphan_mport_up (s : State) (d : Dtag) : (s.dtagOrphan d).mport.up = s.mport.up := rfl
@[simp] theorem State.dtagOrphan_mport_credits (s : State) (d : Dtag) : (s.dtagOrphan d).mport.credits = s.mport.credits := rfl
@[simp] theorem State.dtagOrphan_mport_iq (s : State) (d : Dtag) : (s.dtagOrphan d).mport.iq = s.mport.iq := rfl
@[simp] theorem State.dtagOrphan_mport_sent (s : State) (d : Dtag) : (s.dtagOrphan d).mport.sent = s.mport.sent := rfl
@[simp] theorem State.dtagOrphan_mport_restarts (s : State) (d : Dtag) : (s.dtagOrphan d).mport.restarts = s.mport.restarts := rfl
@[simp] theorem State.dtagOrphan_resp (s : State) (d : Dtag) : (s.dtagOrphan d).resp = s.resp := rfl
@[simp] theorem State.dtagOrphan_meter (s : State) (d : Dtag) : (s.dtagOrphan d).meter = s.meter := rfl
@[simp] theorem State.dtagOrphan_mgmt (s : State) (d : Dtag) : (s.dtagOrphan d).mgmt = s.mgmt := rfl
@[simp] theorem State.dtagOrphan_pending (s : State) (d : Dtag) : (s.dtagOrphan d).pending = s.pending := rfl
@[simp] theorem State.dtagOrphan_choices (s : State) (d : Dtag) : (s.dtagOrphan d).choices = s.choices := rfl
@[simp] theorem State.dtagOrphan_slot (s : State) (d : Dtag) (i : SlotId) : (s.dtagOrphan d).slot i = s.slot i := rfl
@[simp] theorem State.dtagOrphan_buffer (s : State) (d : Dtag) (b : BufferId) :
    (s.dtagOrphan d).buffer b = s.buffer b := rfl
@[simp] theorem State.dtagOrphan_entry (s : State) (d : Dtag) (e : EntryId) :
    (s.dtagOrphan d).entry e = s.entry e := rfl
@[simp] theorem State.dtagOrphan_record (s : State) (d : Dtag) (src : Source) :
    (s.dtagOrphan d).record src = s.record src := rfl
@[simp] theorem State.dtagOrphan_latch (s : State) (d : Dtag) (src : Source) :
    (s.dtagOrphan d).latch src = s.latch src := rfl
@[simp] theorem State.dtagOrphan_flushOrder (s : State) (d : Dtag) (src : Source) :
    (s.dtagOrphan d).flushOrder src = s.flushOrder src := rfl
@[simp] theorem State.dtagOrphan_holdingOf (s : State) (d : Dtag) (src : Source) :
    (s.dtagOrphan d).holdingOf src = s.holdingOf src := rfl
@[simp] theorem State.dtagOrphan_meterOf (s : State) (d : Dtag) (src : Source) :
    (s.dtagOrphan d).meterOf src = s.meterOf src := rfl
@[simp] theorem State.dtagOrphan_counter (s : State) (d : Dtag) (c : Counter) :
    (s.dtagOrphan d).counter c = s.counter c := rfl

/-! ### `State.dtagSend` -/

@[simp] theorem State.dtagSend_hport (s : State) (d : Dtag) : (s.dtagSend d).hport = s.hport := rfl
@[simp] theorem State.dtagSend_adm (s : State) (d : Dtag) : (s.dtagSend d).adm = s.adm := rfl
@[simp] theorem State.dtagSend_tt (s : State) (d : Dtag) : (s.dtagSend d).tt = s.tt := rfl
@[simp] theorem State.dtagSend_mb (s : State) (d : Dtag) : (s.dtagSend d).mb = s.mb := rfl
@[simp] theorem State.dtagSend_fl (s : State) (d : Dtag) : (s.dtagSend d).fl = s.fl := rfl
@[simp] theorem State.dtagSend_es (s : State) (d : Dtag) : (s.dtagSend d).es = s.es := rfl
@[simp] theorem State.dtagSend_mport_up (s : State) (d : Dtag) : (s.dtagSend d).mport.up = s.mport.up := rfl
@[simp] theorem State.dtagSend_mport_credits (s : State) (d : Dtag) : (s.dtagSend d).mport.credits = s.mport.credits := rfl
@[simp] theorem State.dtagSend_mport_iq (s : State) (d : Dtag) : (s.dtagSend d).mport.iq = s.mport.iq := rfl
@[simp] theorem State.dtagSend_mport_orphaned (s : State) (d : Dtag) : (s.dtagSend d).mport.orphaned = s.mport.orphaned := rfl
@[simp] theorem State.dtagSend_mport_sent (s : State) (d : Dtag) : (s.dtagSend d).mport.sent = s.mport.sent := rfl
@[simp] theorem State.dtagSend_mport_restarts (s : State) (d : Dtag) : (s.dtagSend d).mport.restarts = s.mport.restarts := rfl
@[simp] theorem State.dtagSend_resp (s : State) (d : Dtag) : (s.dtagSend d).resp = s.resp := rfl
@[simp] theorem State.dtagSend_meter (s : State) (d : Dtag) : (s.dtagSend d).meter = s.meter := rfl
@[simp] theorem State.dtagSend_mgmt (s : State) (d : Dtag) : (s.dtagSend d).mgmt = s.mgmt := rfl
@[simp] theorem State.dtagSend_pending (s : State) (d : Dtag) : (s.dtagSend d).pending = s.pending := rfl
@[simp] theorem State.dtagSend_choices (s : State) (d : Dtag) : (s.dtagSend d).choices = s.choices := rfl
@[simp] theorem State.dtagSend_slot (s : State) (d : Dtag) (i : SlotId) : (s.dtagSend d).slot i = s.slot i := rfl
@[simp] theorem State.dtagSend_buffer (s : State) (d : Dtag) (b : BufferId) :
    (s.dtagSend d).buffer b = s.buffer b := rfl
@[simp] theorem State.dtagSend_entry (s : State) (d : Dtag) (e : EntryId) : (s.dtagSend d).entry e = s.entry e := rfl
@[simp] theorem State.dtagSend_record (s : State) (d : Dtag) (src : Source) :
    (s.dtagSend d).record src = s.record src := rfl
@[simp] theorem State.dtagSend_latch (s : State) (d : Dtag) (src : Source) :
    (s.dtagSend d).latch src = s.latch src := rfl
@[simp] theorem State.dtagSend_flushOrder (s : State) (d : Dtag) (src : Source) :
    (s.dtagSend d).flushOrder src = s.flushOrder src := rfl
@[simp] theorem State.dtagSend_holdingOf (s : State) (d : Dtag) (src : Source) :
    (s.dtagSend d).holdingOf src = s.holdingOf src := rfl
@[simp] theorem State.dtagSend_meterOf (s : State) (d : Dtag) (src : Source) :
    (s.dtagSend d).meterOf src = s.meterOf src := rfl
@[simp] theorem State.dtagSend_counter (s : State) (d : Dtag) (c : Counter) :
    (s.dtagSend d).counter c = s.counter c := rfl

/-! ### `State.bump` -/

@[simp] theorem State.bump_hport (s : State) (k : Counter) : (s.bump k).hport = s.hport := rfl
@[simp] theorem State.bump_adm (s : State) (k : Counter) : (s.bump k).adm = s.adm := rfl
@[simp] theorem State.bump_tt (s : State) (k : Counter) : (s.bump k).tt = s.tt := rfl
@[simp] theorem State.bump_mb (s : State) (k : Counter) : (s.bump k).mb = s.mb := rfl
@[simp] theorem State.bump_fl (s : State) (k : Counter) : (s.bump k).fl = s.fl := rfl
@[simp] theorem State.bump_es (s : State) (k : Counter) : (s.bump k).es = s.es := rfl
@[simp] theorem State.bump_mport (s : State) (k : Counter) : (s.bump k).mport = s.mport := rfl
@[simp] theorem State.bump_resp (s : State) (k : Counter) : (s.bump k).resp = s.resp := rfl
@[simp] theorem State.bump_meter (s : State) (k : Counter) : (s.bump k).meter = s.meter := rfl
@[simp] theorem State.bump_mgmt_regs (s : State) (k : Counter) : (s.bump k).mgmt.regs = s.mgmt.regs := rfl
@[simp] theorem State.bump_mgmt_quiesce (s : State) (k : Counter) : (s.bump k).mgmt.quiesce = s.mgmt.quiesce := rfl
@[simp] theorem State.bump_mgmt_quietStatus (s : State) (k : Counter) : (s.bump k).mgmt.quietStatus = s.mgmt.quietStatus := rfl
@[simp] theorem State.bump_mgmt_notices (s : State) (k : Counter) : (s.bump k).mgmt.notices = s.mgmt.notices := rfl
@[simp] theorem State.bump_mgmt_lost (s : State) (k : Counter) : (s.bump k).mgmt.lost = s.mgmt.lost := rfl
@[simp] theorem State.bump_mgmt_time (s : State) (k : Counter) : (s.bump k).mgmt.time = s.mgmt.time := rfl
@[simp] theorem State.bump_mgmt_subTime (s : State) (k : Counter) : (s.bump k).mgmt.subTime = s.mgmt.subTime := rfl
@[simp] theorem State.bump_mgmt_irqLine (s : State) (k : Counter) : (s.bump k).mgmt.irqLine = s.mgmt.irqLine := rfl
@[simp] theorem State.bump_mgmt_readData (s : State) (k : Counter) : (s.bump k).mgmt.readData = s.mgmt.readData := rfl
@[simp] theorem State.bump_pending (s : State) (k : Counter) : (s.bump k).pending = s.pending := rfl
@[simp] theorem State.bump_choices (s : State) (k : Counter) : (s.bump k).choices = s.choices := rfl
@[simp] theorem State.bump_slot (s : State) (k : Counter) (i : SlotId) : (s.bump k).slot i = s.slot i := rfl
@[simp] theorem State.bump_buffer (s : State) (k : Counter) (b : BufferId) : (s.bump k).buffer b = s.buffer b := rfl
@[simp] theorem State.bump_entry (s : State) (k : Counter) (e : EntryId) : (s.bump k).entry e = s.entry e := rfl
@[simp] theorem State.bump_record (s : State) (k : Counter) (src : Source) :
    (s.bump k).record src = s.record src := rfl
@[simp] theorem State.bump_latch (s : State) (k : Counter) (src : Source) : (s.bump k).latch src = s.latch src := rfl
@[simp] theorem State.bump_flushOrder (s : State) (k : Counter) (src : Source) :
    (s.bump k).flushOrder src = s.flushOrder src := rfl
@[simp] theorem State.bump_holdingOf (s : State) (k : Counter) (src : Source) :
    (s.bump k).holdingOf src = s.holdingOf src := rfl
@[simp] theorem State.bump_meterOf (s : State) (k : Counter) (src : Source) :
    (s.bump k).meterOf src = s.meterOf src := rfl

/-! ### `State.dropPair` -/

@[simp] theorem State.dropPair_hport (s : State) (p : Source) (t : Tag) : (s.dropPair p t).hport = s.hport := rfl
@[simp] theorem State.dropPair_adm (s : State) (p : Source) (t : Tag) : (s.dropPair p t).adm = s.adm := rfl
@[simp] theorem State.dropPair_tt_slots (s : State) (p : Source) (t : Tag) : (s.dropPair p t).tt.slots = s.tt.slots := rfl
@[simp] theorem State.dropPair_tt_charges (s : State) (p : Source) (t : Tag) : (s.dropPair p t).tt.charges = s.tt.charges := rfl
@[simp] theorem State.dropPair_tt_holding (s : State) (p : Source) (t : Tag) : (s.dropPair p t).tt.holding = s.tt.holding := rfl
@[simp] theorem State.dropPair_mb (s : State) (p : Source) (t : Tag) : (s.dropPair p t).mb = s.mb := rfl
@[simp] theorem State.dropPair_fl (s : State) (p : Source) (t : Tag) : (s.dropPair p t).fl = s.fl := rfl
@[simp] theorem State.dropPair_es (s : State) (p : Source) (t : Tag) : (s.dropPair p t).es = s.es := rfl
@[simp] theorem State.dropPair_mport (s : State) (p : Source) (t : Tag) : (s.dropPair p t).mport = s.mport := rfl
@[simp] theorem State.dropPair_resp (s : State) (p : Source) (t : Tag) : (s.dropPair p t).resp = s.resp := rfl
@[simp] theorem State.dropPair_meter (s : State) (p : Source) (t : Tag) : (s.dropPair p t).meter = s.meter := rfl
@[simp] theorem State.dropPair_mgmt (s : State) (p : Source) (t : Tag) : (s.dropPair p t).mgmt = s.mgmt := rfl
@[simp] theorem State.dropPair_pending (s : State) (p : Source) (t : Tag) : (s.dropPair p t).pending = s.pending := rfl
@[simp] theorem State.dropPair_choices (s : State) (p : Source) (t : Tag) : (s.dropPair p t).choices = s.choices := rfl
@[simp] theorem State.dropPair_slot (s : State) (p : Source) (t : Tag) (i : SlotId) :
    (s.dropPair p t).slot i = s.slot i := rfl
@[simp] theorem State.dropPair_buffer (s : State) (p : Source) (t : Tag) (b : BufferId) :
    (s.dropPair p t).buffer b = s.buffer b := rfl
@[simp] theorem State.dropPair_entry (s : State) (p : Source) (t : Tag) (e : EntryId) :
    (s.dropPair p t).entry e = s.entry e := rfl
@[simp] theorem State.dropPair_record (s : State) (p : Source) (t : Tag) (src : Source) :
    (s.dropPair p t).record src = s.record src := rfl
@[simp] theorem State.dropPair_latch (s : State) (p : Source) (t : Tag) (src : Source) :
    (s.dropPair p t).latch src = s.latch src := rfl
@[simp] theorem State.dropPair_flushOrder (s : State) (p : Source) (t : Tag) (src : Source) :
    (s.dropPair p t).flushOrder src = s.flushOrder src := rfl
@[simp] theorem State.dropPair_holdingOf (s : State) (p : Source) (t : Tag) (src : Source) :
    (s.dropPair p t).holdingOf src = s.holdingOf src := rfl
@[simp] theorem State.dropPair_meterOf (s : State) (p : Source) (t : Tag) (src : Source) :
    (s.dropPair p t).meterOf src = s.meterOf src := rfl
@[simp] theorem State.dropPair_counter (s : State) (p : Source) (t : Tag) (c : Counter) :
    (s.dropPair p t).counter c = s.counter c := rfl

/-! ### `State.takeSlot` -/

@[simp] theorem State.takeSlot_hport (s : State) (k : SlotId) (x : Slot) : (s.takeSlot k x).hport = s.hport := rfl
@[simp] theorem State.takeSlot_adm (s : State) (k : SlotId) (x : Slot) : (s.takeSlot k x).adm = s.adm := rfl
@[simp] theorem State.takeSlot_mb (s : State) (k : SlotId) (x : Slot) : (s.takeSlot k x).mb = s.mb := rfl
@[simp] theorem State.takeSlot_fl (s : State) (k : SlotId) (x : Slot) : (s.takeSlot k x).fl = s.fl := rfl
@[simp] theorem State.takeSlot_es (s : State) (k : SlotId) (x : Slot) : (s.takeSlot k x).es = s.es := rfl
@[simp] theorem State.takeSlot_mport (s : State) (k : SlotId) (x : Slot) : (s.takeSlot k x).mport = s.mport := rfl
@[simp] theorem State.takeSlot_resp (s : State) (k : SlotId) (x : Slot) : (s.takeSlot k x).resp = s.resp := rfl
@[simp] theorem State.takeSlot_meter (s : State) (k : SlotId) (x : Slot) : (s.takeSlot k x).meter = s.meter := rfl
@[simp] theorem State.takeSlot_mgmt (s : State) (k : SlotId) (x : Slot) : (s.takeSlot k x).mgmt = s.mgmt := rfl
@[simp] theorem State.takeSlot_pending (s : State) (k : SlotId) (x : Slot) : (s.takeSlot k x).pending = s.pending := rfl
@[simp] theorem State.takeSlot_choices (s : State) (k : SlotId) (x : Slot) : (s.takeSlot k x).choices = s.choices := rfl
@[simp] theorem State.takeSlot_buffer (s : State) (k : SlotId) (x : Slot) (b : BufferId) :
    (s.takeSlot k x).buffer b = s.buffer b := rfl
@[simp] theorem State.takeSlot_entry (s : State) (k : SlotId) (x : Slot) (e : EntryId) :
    (s.takeSlot k x).entry e = s.entry e := rfl
@[simp] theorem State.takeSlot_record (s : State) (k : SlotId) (x : Slot) (src : Source) :
    (s.takeSlot k x).record src = s.record src := rfl
@[simp] theorem State.takeSlot_latch (s : State) (k : SlotId) (x : Slot) (src : Source) :
    (s.takeSlot k x).latch src = s.latch src := rfl
@[simp] theorem State.takeSlot_flushOrder (s : State) (k : SlotId) (x : Slot) (src : Source) :
    (s.takeSlot k x).flushOrder src = s.flushOrder src := rfl
@[simp] theorem State.takeSlot_meterOf (s : State) (k : SlotId) (x : Slot) (src : Source) :
    (s.takeSlot k x).meterOf src = s.meterOf src := rfl
@[simp] theorem State.takeSlot_counter (s : State) (k : SlotId) (x : Slot) (c : Counter) :
    (s.takeSlot k x).counter c = s.counter c := rfl

/-! ### `State.refreshIrq` -/

@[simp] theorem State.refreshIrq_hport (s : State) : s.refreshIrq.hport = s.hport := rfl
@[simp] theorem State.refreshIrq_adm (s : State) : s.refreshIrq.adm = s.adm := rfl
@[simp] theorem State.refreshIrq_tt (s : State) : s.refreshIrq.tt = s.tt := rfl
@[simp] theorem State.refreshIrq_mb (s : State) : s.refreshIrq.mb = s.mb := rfl
@[simp] theorem State.refreshIrq_fl (s : State) : s.refreshIrq.fl = s.fl := rfl
@[simp] theorem State.refreshIrq_es (s : State) : s.refreshIrq.es = s.es := rfl
@[simp] theorem State.refreshIrq_mport (s : State) : s.refreshIrq.mport = s.mport := rfl
@[simp] theorem State.refreshIrq_resp (s : State) : s.refreshIrq.resp = s.resp := rfl
@[simp] theorem State.refreshIrq_meter (s : State) : s.refreshIrq.meter = s.meter := rfl
@[simp] theorem State.refreshIrq_mgmt_regs (s : State) : s.refreshIrq.mgmt.regs = s.mgmt.regs := rfl
@[simp] theorem State.refreshIrq_mgmt_quiesce (s : State) : s.refreshIrq.mgmt.quiesce = s.mgmt.quiesce := rfl
@[simp] theorem State.refreshIrq_mgmt_quietStatus (s : State) : s.refreshIrq.mgmt.quietStatus = s.mgmt.quietStatus := rfl
@[simp] theorem State.refreshIrq_mgmt_notices (s : State) : s.refreshIrq.mgmt.notices = s.mgmt.notices := rfl
@[simp] theorem State.refreshIrq_mgmt_lost (s : State) : s.refreshIrq.mgmt.lost = s.mgmt.lost := rfl
@[simp] theorem State.refreshIrq_mgmt_counters (s : State) : s.refreshIrq.mgmt.counters = s.mgmt.counters := rfl
@[simp] theorem State.refreshIrq_mgmt_time (s : State) : s.refreshIrq.mgmt.time = s.mgmt.time := rfl
@[simp] theorem State.refreshIrq_mgmt_subTime (s : State) : s.refreshIrq.mgmt.subTime = s.mgmt.subTime := rfl
@[simp] theorem State.refreshIrq_mgmt_readData (s : State) : s.refreshIrq.mgmt.readData = s.mgmt.readData := rfl
@[simp] theorem State.refreshIrq_pending (s : State) : s.refreshIrq.pending = s.pending := rfl
@[simp] theorem State.refreshIrq_choices (s : State) : s.refreshIrq.choices = s.choices := rfl
@[simp] theorem State.refreshIrq_slot (s : State) (i : SlotId) : s.refreshIrq.slot i = s.slot i := rfl
@[simp] theorem State.refreshIrq_buffer (s : State) (b : BufferId) : s.refreshIrq.buffer b = s.buffer b := rfl
@[simp] theorem State.refreshIrq_entry (s : State) (e : EntryId) : s.refreshIrq.entry e = s.entry e := rfl
@[simp] theorem State.refreshIrq_record (s : State) (src : Source) : s.refreshIrq.record src = s.record src := rfl
@[simp] theorem State.refreshIrq_latch (s : State) (src : Source) : s.refreshIrq.latch src = s.latch src := rfl
@[simp] theorem State.refreshIrq_flushOrder (s : State) (src : Source) :
    s.refreshIrq.flushOrder src = s.flushOrder src := rfl
@[simp] theorem State.refreshIrq_holdingOf (s : State) (src : Source) :
    s.refreshIrq.holdingOf src = s.holdingOf src := rfl
@[simp] theorem State.refreshIrq_meterOf (s : State) (src : Source) : s.refreshIrq.meterOf src = s.meterOf src := rfl
@[simp] theorem State.refreshIrq_counter (s : State) (c : Counter) : s.refreshIrq.counter c = s.counter c := rfl

end Sys2Proof.Machine
end

