-- ==== Sys2Proof/Laws/Frames.lean ====
section
/-! SUPPORT. The shared operations of Machine/Flags.lean and Machine/Ops.lean: for each, the blocks it leaves as they were,
and what it does to the rest. Later proofs cite these and do not unfold the operations. -/

namespace Sys2Proof.Machine

/-- What each step of a fold keeps, the fold keeps. -/
theorem foldl_keeps {α β γ : Type} (f : β → γ) (g : β → α → β) (h : ∀ s x, f (g s x) = f s) (l : List α) (s : β) :
    f (l.foldl g s) = f s := by
  induction l generalizing s with
  | nil => rfl
  | cons x l ih => rw [List.foldl_cons, ih, h]


/-! ### What `State.logNotice` leaves -/

theorem State.logNotice_frame (s : State) (n : Notice) :
    (s.logNotice n).hport = s.hport ∧ (s.logNotice n).adm = s.adm ∧ (s.logNotice n).tt = s.tt
      ∧ (s.logNotice n).mb = s.mb ∧ (s.logNotice n).fl = s.fl ∧ (s.logNotice n).es = s.es
      ∧ (s.logNotice n).mport = s.mport ∧ (s.logNotice n).resp = s.resp ∧ (s.logNotice n).meter = s.meter
      ∧ (s.logNotice n).mgmt.regs = s.mgmt.regs ∧ (s.logNotice n).mgmt.quiesce = s.mgmt.quiesce
      ∧ (s.logNotice n).mgmt.quietStatus = s.mgmt.quietStatus ∧ (s.logNotice n).mgmt.time = s.mgmt.time
      ∧ (s.logNotice n).mgmt.subTime = s.mgmt.subTime ∧ (s.logNotice n).mgmt.readData = s.mgmt.readData
      ∧ (s.logNotice n).pending = s.pending ∧ (s.logNotice n).choices = s.choices := by
  unfold State.logNotice; (repeat' split) <;> simp
@[simp] theorem State.logNotice_hport (s : State) (n : Notice) : (s.logNotice n).hport = s.hport :=
    (s.logNotice_frame n).1
@[simp] theorem State.logNotice_adm (s : State) (n : Notice) : (s.logNotice n).adm = s.adm := (s.logNotice_frame n).2.1
@[simp] theorem State.logNotice_tt (s : State) (n : Notice) : (s.logNotice n).tt = s.tt := (s.logNotice_frame n).2.2.1
@[simp] theorem State.logNotice_mb (s : State) (n : Notice) : (s.logNotice n).mb = s.mb :=
    (s.logNotice_frame n).2.2.2.1
@[simp] theorem State.logNotice_fl (s : State) (n : Notice) : (s.logNotice n).fl = s.fl :=
    (s.logNotice_frame n).2.2.2.2.1
@[simp] theorem State.logNotice_es (s : State) (n : Notice) : (s.logNotice n).es = s.es :=
    (s.logNotice_frame n).2.2.2.2.2.1
@[simp] theorem State.logNotice_mport (s : State) (n : Notice) : (s.logNotice n).mport = s.mport :=
    (s.logNotice_frame n).2.2.2.2.2.2.1
@[simp] theorem State.logNotice_resp (s : State) (n : Notice) : (s.logNotice n).resp = s.resp :=
    (s.logNotice_frame n).2.2.2.2.2.2.2.1
@[simp] theorem State.logNotice_meter (s : State) (n : Notice) : (s.logNotice n).meter = s.meter :=
    (s.logNotice_frame n).2.2.2.2.2.2.2.2.1
@[simp] theorem State.logNotice_mgmt_regs (s : State) (n : Notice) : (s.logNotice n).mgmt.regs = s.mgmt.regs :=
    (s.logNotice_frame n).2.2.2.2.2.2.2.2.2.1
@[simp] theorem State.logNotice_mgmt_quiesce (s : State) (n : Notice) : (s.logNotice n).mgmt.quiesce = s.mgmt.quiesce :=
    (s.logNotice_frame n).2.2.2.2.2.2.2.2.2.2.1
@[simp] theorem State.logNotice_mgmt_quietStatus (s : State) (n : Notice) : (s.logNotice n).mgmt.quietStatus = s.mgmt.quietStatus :=
    (s.logNotice_frame n).2.2.2.2.2.2.2.2.2.2.2.1
@[simp] theorem State.logNotice_mgmt_time (s : State) (n : Notice) : (s.logNotice n).mgmt.time = s.mgmt.time :=
    (s.logNotice_frame n).2.2.2.2.2.2.2.2.2.2.2.2.1
@[simp] theorem State.logNotice_mgmt_subTime (s : State) (n : Notice) : (s.logNotice n).mgmt.subTime = s.mgmt.subTime :=
    (s.logNotice_frame n).2.2.2.2.2.2.2.2.2.2.2.2.2.1
@[simp] theorem State.logNotice_mgmt_readData (s : State) (n : Notice) : (s.logNotice n).mgmt.readData = s.mgmt.readData :=
    (s.logNotice_frame n).2.2.2.2.2.2.2.2.2.2.2.2.2.2.1
@[simp] theorem State.logNotice_pending (s : State) (n : Notice) : (s.logNotice n).pending = s.pending :=
    (s.logNotice_frame n).2.2.2.2.2.2.2.2.2.2.2.2.2.2.2.1
@[simp] theorem State.logNotice_choices (s : State) (n : Notice) : (s.logNotice n).choices = s.choices :=
    (s.logNotice_frame n).2.2.2.2.2.2.2.2.2.2.2.2.2.2.2.2
@[simp] theorem State.logNotice_slot (s : State) (n : Notice) (i : SlotId) :
    (s.logNotice n).slot i = s.slot i := State.slot_congr (s.logNotice_tt n) i
@[simp] theorem State.logNotice_buffer (s : State) (n : Notice) (b : BufferId) :
    (s.logNotice n).buffer b = s.buffer b := State.buffer_congr (s.logNotice_mb n) b
@[simp] theorem State.logNotice_entry (s : State) (n : Notice) (e : EntryId) :
    (s.logNotice n).entry e = s.entry e := State.entry_congr (s.logNotice_es n) e
@[simp] theorem State.logNotice_record (s : State) (n : Notice) (src : Source) :
    (s.logNotice n).record src = s.record src := State.record_congr (s.logNotice_resp n) src
@[simp] theorem State.logNotice_latch (s : State) (n : Notice) (src : Source) :
    (s.logNotice n).latch src = s.latch src := State.latch_congr (s.logNotice_fl n) src
@[simp] theorem State.logNotice_flushOrder (s : State) (n : Notice) (src : Source) :
    (s.logNotice n).flushOrder src = s.flushOrder src := State.flushOrder_congr (s.logNotice_fl n) src
@[simp] theorem State.logNotice_holdingOf (s : State) (n : Notice) (src : Source) :
    (s.logNotice n).holdingOf src = s.holdingOf src := State.holdingOf_congr (s.logNotice_tt n) src
@[simp] theorem State.logNotice_meterOf (s : State) (n : Notice) (src : Source) :
    (s.logNotice n).meterOf src = s.meterOf src := State.meterOf_congr (s.logNotice_meter n) src

/-! ### What `State.popNotice` leaves -/

theorem State.popNotice_frame (s : State) :
    s.popNotice.hport = s.hport ∧ s.popNotice.adm = s.adm ∧ s.popNotice.tt = s.tt ∧ s.popNotice.mb = s.mb
      ∧ s.popNotice.fl = s.fl ∧ s.popNotice.es = s.es ∧ s.popNotice.mport = s.mport ∧ s.popNotice.resp = s.resp
      ∧ s.popNotice.meter = s.meter ∧ s.popNotice.mgmt.regs = s.mgmt.regs
      ∧ s.popNotice.mgmt.quiesce = s.mgmt.quiesce ∧ s.popNotice.mgmt.quietStatus = s.mgmt.quietStatus
      ∧ s.popNotice.mgmt.lost = s.mgmt.lost ∧ s.popNotice.mgmt.counters = s.mgmt.counters
      ∧ s.popNotice.mgmt.time = s.mgmt.time ∧ s.popNotice.mgmt.subTime = s.mgmt.subTime
      ∧ s.popNotice.mgmt.readData = s.mgmt.readData ∧ s.popNotice.pending = s.pending
      ∧ s.popNotice.choices = s.choices := by
  unfold State.popNotice; (repeat' split) <;> simp
@[simp] theorem State.popNotice_hport (s : State) : s.popNotice.hport = s.hport := s.popNotice_frame.1
@[simp] theorem State.popNotice_adm (s : State) : s.popNotice.adm = s.adm := s.popNotice_frame.2.1
@[simp] theorem State.popNotice_tt (s : State) : s.popNotice.tt = s.tt := s.popNotice_frame.2.2.1
@[simp] theorem State.popNotice_mb (s : State) : s.popNotice.mb = s.mb := s.popNotice_frame.2.2.2.1
@[simp] theorem State.popNotice_fl (s : State) : s.popNotice.fl = s.fl := s.popNotice_frame.2.2.2.2.1
@[simp] theorem State.popNotice_es (s : State) : s.popNotice.es = s.es := s.popNotice_frame.2.2.2.2.2.1
@[simp] theorem State.popNotice_mport (s : State) : s.popNotice.mport = s.mport := s.popNotice_frame.2.2.2.2.2.2.1
@[simp] theorem State.popNotice_resp (s : State) : s.popNotice.resp = s.resp := s.popNotice_frame.2.2.2.2.2.2.2.1
@[simp] theorem State.popNotice_meter (s : State) : s.popNotice.meter = s.meter := s.popNotice_frame.2.2.2.2.2.2.2.2.1
@[simp] theorem State.popNotice_mgmt_regs (s : State) : s.popNotice.mgmt.regs = s.mgmt.regs :=
    s.popNotice_frame.2.2.2.2.2.2.2.2.2.1
@[simp] theorem State.popNotice_mgmt_quiesce (s : State) : s.popNotice.mgmt.quiesce = s.mgmt.quiesce :=
    s.popNotice_frame.2.2.2.2.2.2.2.2.2.2.1
@[simp] theorem State.popNotice_mgmt_quietStatus (s : State) : s.popNotice.mgmt.quietStatus = s.mgmt.quietStatus :=
    s.popNotice_frame.2.2.2.2.2.2.2.2.2.2.2.1
@[simp] theorem State.popNotice_mgmt_lost (s : State) : s.popNotice.mgmt.lost = s.mgmt.lost :=
    s.popNotice_frame.2.2.2.2.2.2.2.2.2.2.2.2.1
@[simp] theorem State.popNotice_mgmt_counters (s : State) : s.popNotice.mgmt.counters = s.mgmt.counters :=
    s.popNotice_frame.2.2.2.2.2.2.2.2.2.2.2.2.2.1
@[simp] theorem State.popNotice_mgmt_time (s : State) : s.popNotice.mgmt.time = s.mgmt.time :=
    s.popNotice_frame.2.2.2.2.2.2.2.2.2.2.2.2.2.2.1
@[simp] theorem State.popNotice_mgmt_subTime (s : State) : s.popNotice.mgmt.subTime = s.mgmt.subTime :=
    s.popNotice_frame.2.2.2.2.2.2.2.2.2.2.2.2.2.2.2.1
@[simp] theorem State.popNotice_mgmt_readData (s : State) : s.popNotice.mgmt.readData = s.mgmt.readData :=
    s.popNotice_frame.2.2.2.2.2.2.2.2.2.2.2.2.2.2.2.2.1
@[simp] theorem State.popNotice_pending (s : State) : s.popNotice.pending = s.pending :=
    s.popNotice_frame.2.2.2.2.2.2.2.2.2.2.2.2.2.2.2.2.2.1
@[simp] theorem State.popNotice_choices (s : State) : s.popNotice.choices = s.choices :=
    s.popNotice_frame.2.2.2.2.2.2.2.2.2.2.2.2.2.2.2.2.2.2
@[simp] theorem State.popNotice_slot (s : State) (i : SlotId) :
    s.popNotice.slot i = s.slot i := State.slot_congr (s.popNotice_tt ) i
@[simp] theorem State.popNotice_buffer (s : State) (b : BufferId) :
    s.popNotice.buffer b = s.buffer b := State.buffer_congr (s.popNotice_mb ) b
@[simp] theorem State.popNotice_entry (s : State) (e : EntryId) :
    s.popNotice.entry e = s.entry e := State.entry_congr (s.popNotice_es ) e
@[simp] theorem State.popNotice_record (s : State) (src : Source) :
    s.popNotice.record src = s.record src := State.record_congr (s.popNotice_resp ) src
@[simp] theorem State.popNotice_latch (s : State) (src : Source) :
    s.popNotice.latch src = s.latch src := State.latch_congr (s.popNotice_fl ) src
@[simp] theorem State.popNotice_flushOrder (s : State) (src : Source) :
    s.popNotice.flushOrder src = s.flushOrder src := State.flushOrder_congr (s.popNotice_fl ) src
@[simp] theorem State.popNotice_holdingOf (s : State) (src : Source) :
    s.popNotice.holdingOf src = s.holdingOf src := State.holdingOf_congr (s.popNotice_tt ) src
@[simp] theorem State.popNotice_meterOf (s : State) (src : Source) :
    s.popNotice.meterOf src = s.meterOf src := State.meterOf_congr (s.popNotice_meter ) src
@[simp] theorem State.popNotice_counter (s : State) (c : Counter) :
    s.popNotice.counter c = s.counter c := congrArg (tget · (counterIndex c)) (s.popNotice_mgmt_counters )

/-! ### What `State.enterQuiet` leaves -/

theorem State.enterQuiet_frame (s : State) :
    s.enterQuiet.hport = s.hport ∧ s.enterQuiet.adm = s.adm ∧ s.enterQuiet.tt = s.tt ∧ s.enterQuiet.mb = s.mb
      ∧ s.enterQuiet.fl = s.fl ∧ s.enterQuiet.es = s.es ∧ s.enterQuiet.mport = s.mport
      ∧ s.enterQuiet.resp = s.resp ∧ s.enterQuiet.meter = s.meter ∧ s.enterQuiet.mgmt.regs = s.mgmt.regs
      ∧ s.enterQuiet.mgmt.time = s.mgmt.time ∧ s.enterQuiet.mgmt.subTime = s.mgmt.subTime
      ∧ s.enterQuiet.mgmt.readData = s.mgmt.readData ∧ s.enterQuiet.pending = s.pending
      ∧ s.enterQuiet.choices = s.choices := by
  simp [State.enterQuiet]
@[simp] theorem State.enterQuiet_hport (s : State) : s.enterQuiet.hport = s.hport := s.enterQuiet_frame.1
@[simp] theorem State.enterQuiet_adm (s : State) : s.enterQuiet.adm = s.adm := s.enterQuiet_frame.2.1
@[simp] theorem State.enterQuiet_tt (s : State) : s.enterQuiet.tt = s.tt := s.enterQuiet_frame.2.2.1
@[simp] theorem State.enterQuiet_mb (s : State) : s.enterQuiet.mb = s.mb := s.enterQuiet_frame.2.2.2.1
@[simp] theorem State.enterQuiet_fl (s : State) : s.enterQuiet.fl = s.fl := s.enterQuiet_frame.2.2.2.2.1
@[simp] theorem State.enterQuiet_es (s : State) : s.enterQuiet.es = s.es := s.enterQuiet_frame.2.2.2.2.2.1
@[simp] theorem State.enterQuiet_mport (s : State) : s.enterQuiet.mport = s.mport := s.enterQuiet_frame.2.2.2.2.2.2.1
@[simp] theorem State.enterQuiet_resp (s : State) : s.enterQuiet.resp = s.resp := s.enterQuiet_frame.2.2.2.2.2.2.2.1
@[simp] theorem State.enterQuiet_meter (s : State) : s.enterQuiet.meter = s.meter :=
    s.enterQuiet_frame.2.2.2.2.2.2.2.2.1
@[simp] theorem State.enterQuiet_mgmt_regs (s : State) : s.enterQuiet.mgmt.regs = s.mgmt.regs :=
    s.enterQuiet_frame.2.2.2.2.2.2.2.2.2.1
@[simp] theorem State.enterQuiet_mgmt_time (s : State) : s.enterQuiet.mgmt.time = s.mgmt.time :=
    s.enterQuiet_frame.2.2.2.2.2.2.2.2.2.2.1
@[simp] theorem State.enterQuiet_mgmt_subTime (s : State) : s.enterQuiet.mgmt.subTime = s.mgmt.subTime :=
    s.enterQuiet_frame.2.2.2.2.2.2.2.2.2.2.2.1
@[simp] theorem State.enterQuiet_mgmt_readData (s : State) : s.enterQuiet.mgmt.readData = s.mgmt.readData :=
    s.enterQuiet_frame.2.2.2.2.2.2.2.2.2.2.2.2.1
@[simp] theorem State.enterQuiet_pending (s : State) : s.enterQuiet.pending = s.pending :=
    s.enterQuiet_frame.2.2.2.2.2.2.2.2.2.2.2.2.2.1
@[simp] theorem State.enterQuiet_choices (s : State) : s.enterQuiet.choices = s.choices :=
    s.enterQuiet_frame.2.2.2.2.2.2.2.2.2.2.2.2.2.2
@[simp] theorem State.enterQuiet_slot (s : State) (i : SlotId) :
    s.enterQuiet.slot i = s.slot i := State.slot_congr (s.enterQuiet_tt ) i
@[simp] theorem State.enterQuiet_buffer (s : State) (b : BufferId) :
    s.enterQuiet.buffer b = s.buffer b := State.buffer_congr (s.enterQuiet_mb ) b
@[simp] theorem State.enterQuiet_entry (s : State) (e : EntryId) :
    s.enterQuiet.entry e = s.entry e := State.entry_congr (s.enterQuiet_es ) e
@[simp] theorem State.enterQuiet_record (s : State) (src : Source) :
    s.enterQuiet.record src = s.record src := State.record_congr (s.enterQuiet_resp ) src
@[simp] theorem State.enterQuiet_latch (s : State) (src : Source) :
    s.enterQuiet.latch src = s.latch src := State.latch_congr (s.enterQuiet_fl ) src
@[simp] theorem State.enterQuiet_flushOrder (s : State) (src : Source) :
    s.enterQuiet.flushOrder src = s.flushOrder src := State.flushOrder_congr (s.enterQuiet_fl ) src
@[simp] theorem State.enterQuiet_holdingOf (s : State) (src : Source) :
    s.enterQuiet.holdingOf src = s.holdingOf src := State.holdingOf_congr (s.enterQuiet_tt ) src
@[simp] theorem State.enterQuiet_meterOf (s : State) (src : Source) :
    s.enterQuiet.meterOf src = s.meterOf src := State.meterOf_congr (s.enterQuiet_meter ) src

/-! ### What `State.checkQuiet` leaves -/

theorem State.checkQuiet_frame (s : State) :
    s.checkQuiet.hport = s.hport ∧ s.checkQuiet.adm = s.adm ∧ s.checkQuiet.tt = s.tt ∧ s.checkQuiet.mb = s.mb
      ∧ s.checkQuiet.fl = s.fl ∧ s.checkQuiet.es = s.es ∧ s.checkQuiet.mport = s.mport
      ∧ s.checkQuiet.resp = s.resp ∧ s.checkQuiet.meter = s.meter ∧ s.checkQuiet.mgmt.regs = s.mgmt.regs
      ∧ s.checkQuiet.mgmt.time = s.mgmt.time ∧ s.checkQuiet.mgmt.subTime = s.mgmt.subTime
      ∧ s.checkQuiet.mgmt.readData = s.mgmt.readData ∧ s.checkQuiet.pending = s.pending
      ∧ s.checkQuiet.choices = s.choices := by
  unfold State.checkQuiet; (repeat' split) <;> simp
@[simp] theorem State.checkQuiet_hport (s : State) : s.checkQuiet.hport = s.hport := s.checkQuiet_frame.1
@[simp] theorem State.checkQuiet_adm (s : State) : s.checkQuiet.adm = s.adm := s.checkQuiet_frame.2.1
@[simp] theorem State.checkQuiet_tt (s : State) : s.checkQuiet.tt = s.tt := s.checkQuiet_frame.2.2.1
@[simp] theorem State.checkQuiet_mb (s : State) : s.checkQuiet.mb = s.mb := s.checkQuiet_frame.2.2.2.1
@[simp] theorem State.checkQuiet_fl (s : State) : s.checkQuiet.fl = s.fl := s.checkQuiet_frame.2.2.2.2.1
@[simp] theorem State.checkQuiet_es (s : State) : s.checkQuiet.es = s.es := s.checkQuiet_frame.2.2.2.2.2.1
@[simp] theorem State.checkQuiet_mport (s : State) : s.checkQuiet.mport = s.mport := s.checkQuiet_frame.2.2.2.2.2.2.1
@[simp] theorem State.checkQuiet_resp (s : State) : s.checkQuiet.resp = s.resp := s.checkQuiet_frame.2.2.2.2.2.2.2.1
@[simp] theorem State.checkQuiet_meter (s : State) : s.checkQuiet.meter = s.meter :=
    s.checkQuiet_frame.2.2.2.2.2.2.2.2.1
@[simp] theorem State.checkQuiet_mgmt_regs (s : State) : s.checkQuiet.mgmt.regs = s.mgmt.regs :=
    s.checkQuiet_frame.2.2.2.2.2.2.2.2.2.1
@[simp] theorem State.checkQuiet_mgmt_time (s : State) : s.checkQuiet.mgmt.time = s.mgmt.time :=
    s.checkQuiet_frame.2.2.2.2.2.2.2.2.2.2.1
@[simp] theorem State.checkQuiet_mgmt_subTime (s : State) : s.checkQuiet.mgmt.subTime = s.mgmt.subTime :=
    s.checkQuiet_frame.2.2.2.2.2.2.2.2.2.2.2.1
@[simp] theorem State.checkQuiet_mgmt_readData (s : State) : s.checkQuiet.mgmt.readData = s.mgmt.readData :=
    s.checkQuiet_frame.2.2.2.2.2.2.2.2.2.2.2.2.1
@[simp] theorem State.checkQuiet_pending (s : State) : s.checkQuiet.pending = s.pending :=
    s.checkQuiet_frame.2.2.2.2.2.2.2.2.2.2.2.2.2.1
@[simp] theorem State.checkQuiet_choices (s : State) : s.checkQuiet.choices = s.choices :=
    s.checkQuiet_frame.2.2.2.2.2.2.2.2.2.2.2.2.2.2
@[simp] theorem State.checkQuiet_slot (s : State) (i : SlotId) :
    s.checkQuiet.slot i = s.slot i := State.slot_congr (s.checkQuiet_tt ) i
@[simp] theorem State.checkQuiet_buffer (s : State) (b : BufferId) :
    s.checkQuiet.buffer b = s.buffer b := State.buffer_congr (s.checkQuiet_mb ) b
@[simp] theorem State.checkQuiet_entry (s : State) (e : EntryId) :
    s.checkQuiet.entry e = s.entry e := State.entry_congr (s.checkQuiet_es ) e
@[simp] theorem State.checkQuiet_record (s : State) (src : Source) :
    s.checkQuiet.record src = s.record src := State.record_congr (s.checkQuiet_resp ) src
@[simp] theorem State.checkQuiet_latch (s : State) (src : Source) :
    s.checkQuiet.latch src = s.latch src := State.latch_congr (s.checkQuiet_fl ) src
@[simp] theorem State.checkQuiet_flushOrder (s : State) (src : Source) :
    s.checkQuiet.flushOrder src = s.flushOrder src := State.flushOrder_congr (s.checkQuiet_fl ) src
@[simp] theorem State.checkQuiet_holdingOf (s : State) (src : Source) :
    s.checkQuiet.holdingOf src = s.holdingOf src := State.holdingOf_congr (s.checkQuiet_tt ) src
@[simp] theorem State.checkQuiet_meterOf (s : State) (src : Source) :
    s.checkQuiet.meterOf src = s.meterOf src := State.meterOf_congr (s.checkQuiet_meter ) src

/-! ### What `State.setLatches` leaves -/

theorem State.setLatches_frame (s : State) (l : List Source) :
    (s.setLatches l).hport = s.hport ∧ (s.setLatches l).adm = s.adm ∧ (s.setLatches l).tt = s.tt
      ∧ (s.setLatches l).mb = s.mb ∧ (s.setLatches l).fl.order = s.fl.order ∧ (s.setLatches l).es = s.es
      ∧ (s.setLatches l).mport = s.mport ∧ (s.setLatches l).resp = s.resp ∧ (s.setLatches l).meter = s.meter
      ∧ (s.setLatches l).mgmt = s.mgmt ∧ (s.setLatches l).pending = s.pending
      ∧ (s.setLatches l).choices = s.choices := by
  unfold State.setLatches
  exact ⟨foldl_keeps (fun t : State => t.hport) _ (by intro t x; simp) _ _,
    foldl_keeps (fun t : State => t.adm) _ (by intro t x; simp) _ _,
    foldl_keeps (fun t : State => t.tt) _ (by intro t x; simp) _ _,
    foldl_keeps (fun t : State => t.mb) _ (by intro t x; simp) _ _,
    foldl_keeps (fun t : State => t.fl.order) _ (by intro t x; simp) _ _,
    foldl_keeps (fun t : State => t.es) _ (by intro t x; simp) _ _,
    foldl_keeps (fun t : State => t.mport) _ (by intro t x; simp) _ _,
    foldl_keeps (fun t : State => t.resp) _ (by intro t x; simp) _ _,
    foldl_keeps (fun t : State => t.meter) _ (by intro t x; simp) _ _,
    foldl_keeps (fun t : State => t.mgmt) _ (by intro t x; simp) _ _,
    foldl_keeps (fun t : State => t.pending) _ (by intro t x; simp) _ _,
    foldl_keeps (fun t : State => t.choices) _ (by intro t x; simp) _ _⟩
@[simp] theorem State.setLatches_hport (s : State) (l : List Source) : (s.setLatches l).hport = s.hport :=
    (s.setLatches_frame l).1
@[simp] theorem State.setLatches_adm (s : State) (l : List Source) : (s.setLatches l).adm = s.adm :=
    (s.setLatches_frame l).2.1
@[simp] theorem State.setLatches_tt (s : State) (l : List Source) : (s.setLatches l).tt = s.tt :=
    (s.setLatches_frame l).2.2.1
@[simp] theorem State.setLatches_mb (s : State) (l : List Source) : (s.setLatches l).mb = s.mb :=
    (s.setLatches_frame l).2.2.2.1
@[simp] theorem State.setLatches_fl_order (s : State) (l : List Source) : (s.setLatches l).fl.order = s.fl.order :=
    (s.setLatches_frame l).2.2.2.2.1
@[simp] theorem State.setLatches_es (s : State) (l : List Source) : (s.setLatches l).es = s.es :=
    (s.setLatches_frame l).2.2.2.2.2.1
@[simp] theorem State.setLatches_mport (s : State) (l : List Source) : (s.setLatches l).mport = s.mport :=
    (s.setLatches_frame l).2.2.2.2.2.2.1
@[simp] theorem State.setLatches_resp (s : State) (l : List Source) : (s.setLatches l).resp = s.resp :=
    (s.setLatches_frame l).2.2.2.2.2.2.2.1
@[simp] theorem State.setLatches_meter (s : State) (l : List Source) : (s.setLatches l).meter = s.meter :=
    (s.setLatches_frame l).2.2.2.2.2.2.2.2.1
@[simp] theorem State.setLatches_mgmt (s : State) (l : List Source) : (s.setLatches l).mgmt = s.mgmt :=
    (s.setLatches_frame l).2.2.2.2.2.2.2.2.2.1
@[simp] theorem State.setLatches_pending (s : State) (l : List Source) : (s.setLatches l).pending = s.pending :=
    (s.setLatches_frame l).2.2.2.2.2.2.2.2.2.2.1
@[simp] theorem State.setLatches_choices (s : State) (l : List Source) : (s.setLatches l).choices = s.choices :=
    (s.setLatches_frame l).2.2.2.2.2.2.2.2.2.2.2
@[simp] theorem State.setLatches_slot (s : State) (l : List Source) (i : SlotId) :
    (s.setLatches l).slot i = s.slot i := State.slot_congr (s.setLatches_tt l) i
@[simp] theorem State.setLatches_buffer (s : State) (l : List Source) (b : BufferId) :
    (s.setLatches l).buffer b = s.buffer b := State.buffer_congr (s.setLatches_mb l) b
@[simp] theorem State.setLatches_entry (s : State) (l : List Source) (e : EntryId) :
    (s.setLatches l).entry e = s.entry e := State.entry_congr (s.setLatches_es l) e
@[simp] theorem State.setLatches_record (s : State) (l : List Source) (src : Source) :
    (s.setLatches l).record src = s.record src := State.record_congr (s.setLatches_resp l) src
@[simp] theorem State.setLatches_flushOrder (s : State) (l : List Source) (src : Source) :
    (s.setLatches l).flushOrder src = s.flushOrder src := congrArg (tget · src) (s.setLatches_fl_order l)
@[simp] theorem State.setLatches_holdingOf (s : State) (l : List Source) (src : Source) :
    (s.setLatches l).holdingOf src = s.holdingOf src := State.holdingOf_congr (s.setLatches_tt l) src
@[simp] theorem State.setLatches_meterOf (s : State) (l : List Source) (src : Source) :
    (s.setLatches l).meterOf src = s.meterOf src := State.meterOf_congr (s.setLatches_meter l) src
@[simp] theorem State.setLatches_counter (s : State) (l : List Source) (c : Counter) :
    (s.setLatches l).counter c = s.counter c := State.counter_congr (s.setLatches_mgmt l) c

/-! ### What `State.freeSlot` leaves -/

theorem State.freeSlot_frame (s : State) (k : SlotId) :
    (s.freeSlot k).hport = s.hport ∧ (s.freeSlot k).adm = s.adm ∧ (s.freeSlot k).tt.tagMap = s.tt.tagMap
      ∧ (s.freeSlot k).mb = s.mb ∧ (s.freeSlot k).fl = s.fl ∧ (s.freeSlot k).es = s.es
      ∧ (s.freeSlot k).mport.up = s.mport.up ∧ (s.freeSlot k).mport.credits = s.mport.credits
      ∧ (s.freeSlot k).mport.iq = s.mport.iq ∧ (s.freeSlot k).mport.sent = s.mport.sent
      ∧ (s.freeSlot k).mport.restarts = s.mport.restarts ∧ (s.freeSlot k).resp = s.resp
      ∧ (s.freeSlot k).meter = s.meter ∧ (s.freeSlot k).mgmt = s.mgmt ∧ (s.freeSlot k).pending = s.pending
      ∧ (s.freeSlot k).choices = s.choices := by
  unfold State.freeSlot; (repeat' split) <;> simp
@[simp] theorem State.freeSlot_hport (s : State) (k : SlotId) : (s.freeSlot k).hport = s.hport :=
    (s.freeSlot_frame k).1
@[simp] theorem State.freeSlot_adm (s : State) (k : SlotId) : (s.freeSlot k).adm = s.adm := (s.freeSlot_frame k).2.1
@[simp] theorem State.freeSlot_tt_tagMap (s : State) (k : SlotId) : (s.freeSlot k).tt.tagMap = s.tt.tagMap :=
    (s.freeSlot_frame k).2.2.1
@[simp] theorem State.freeSlot_mb (s : State) (k : SlotId) : (s.freeSlot k).mb = s.mb := (s.freeSlot_frame k).2.2.2.1
@[simp] theorem State.freeSlot_fl (s : State) (k : SlotId) : (s.freeSlot k).fl = s.fl := (s.freeSlot_frame k).2.2.2.2.1
@[simp] theorem State.freeSlot_es (s : State) (k : SlotId) : (s.freeSlot k).es = s.es :=
    (s.freeSlot_frame k).2.2.2.2.2.1
@[simp] theorem State.freeSlot_mport_up (s : State) (k : SlotId) : (s.freeSlot k).mport.up = s.mport.up :=
    (s.freeSlot_frame k).2.2.2.2.2.2.1
@[simp] theorem State.freeSlot_mport_credits (s : State) (k : SlotId) : (s.freeSlot k).mport.credits = s.mport.credits :=
    (s.freeSlot_frame k).2.2.2.2.2.2.2.1
@[simp] theorem State.freeSlot_mport_iq (s : State) (k : SlotId) : (s.freeSlot k).mport.iq = s.mport.iq :=
    (s.freeSlot_frame k).2.2.2.2.2.2.2.2.1
@[simp] theorem State.freeSlot_mport_sent (s : State) (k : SlotId) : (s.freeSlot k).mport.sent = s.mport.sent :=
    (s.freeSlot_frame k).2.2.2.2.2.2.2.2.2.1
@[simp] theorem State.freeSlot_mport_restarts (s : State) (k : SlotId) : (s.freeSlot k).mport.restarts = s.mport.restarts :=
    (s.freeSlot_frame k).2.2.2.2.2.2.2.2.2.2.1
@[simp] theorem State.freeSlot_resp (s : State) (k : SlotId) : (s.freeSlot k).resp = s.resp :=
    (s.freeSlot_frame k).2.2.2.2.2.2.2.2.2.2.2.1
@[simp] theorem State.freeSlot_meter (s : State) (k : SlotId) : (s.freeSlot k).meter = s.meter :=
    (s.freeSlot_frame k).2.2.2.2.2.2.2.2.2.2.2.2.1
@[simp] theorem State.freeSlot_mgmt (s : State) (k : SlotId) : (s.freeSlot k).mgmt = s.mgmt :=
    (s.freeSlot_frame k).2.2.2.2.2.2.2.2.2.2.2.2.2.1
@[simp] theorem State.freeSlot_pending (s : State) (k : SlotId) : (s.freeSlot k).pending = s.pending :=
    (s.freeSlot_frame k).2.2.2.2.2.2.2.2.2.2.2.2.2.2.1
@[simp] theorem State.freeSlot_choices (s : State) (k : SlotId) : (s.freeSlot k).choices = s.choices :=
    (s.freeSlot_frame k).2.2.2.2.2.2.2.2.2.2.2.2.2.2.2
@[simp] theorem State.freeSlot_buffer (s : State) (k : SlotId) (b : BufferId) :
    (s.freeSlot k).buffer b = s.buffer b := State.buffer_congr (s.freeSlot_mb k) b
@[simp] theorem State.freeSlot_entry (s : State) (k : SlotId) (e : EntryId) :
    (s.freeSlot k).entry e = s.entry e := State.entry_congr (s.freeSlot_es k) e
@[simp] theorem State.freeSlot_record (s : State) (k : SlotId) (src : Source) :
    (s.freeSlot k).record src = s.record src := State.record_congr (s.freeSlot_resp k) src
@[simp] theorem State.freeSlot_latch (s : State) (k : SlotId) (src : Source) :
    (s.freeSlot k).latch src = s.latch src := State.latch_congr (s.freeSlot_fl k) src
@[simp] theorem State.freeSlot_flushOrder (s : State) (k : SlotId) (src : Source) :
    (s.freeSlot k).flushOrder src = s.flushOrder src := State.flushOrder_congr (s.freeSlot_fl k) src
@[simp] theorem State.freeSlot_meterOf (s : State) (k : SlotId) (src : Source) :
    (s.freeSlot k).meterOf src = s.meterOf src := State.meterOf_congr (s.freeSlot_meter k) src
@[simp] theorem State.freeSlot_counter (s : State) (k : SlotId) (c : Counter) :
    (s.freeSlot k).counter c = s.counter c := State.counter_congr (s.freeSlot_mgmt k) c

/-! ### What `State.setCourse` leaves -/

theorem State.setCourse_frame (s : State) (k : SlotId) (x : ReadCourse) :
    (s.setCourse k x).hport = s.hport ∧ (s.setCourse k x).adm = s.adm
      ∧ (s.setCourse k x).tt.charges = s.tt.charges ∧ (s.setCourse k x).tt.tagMap = s.tt.tagMap
      ∧ (s.setCourse k x).tt.holding = s.tt.holding ∧ (s.setCourse k x).mb = s.mb ∧ (s.setCourse k x).fl = s.fl
      ∧ (s.setCourse k x).es = s.es ∧ (s.setCourse k x).mport = s.mport ∧ (s.setCourse k x).resp = s.resp
      ∧ (s.setCourse k x).meter = s.meter ∧ (s.setCourse k x).mgmt = s.mgmt
      ∧ (s.setCourse k x).pending = s.pending ∧ (s.setCourse k x).choices = s.choices := by
  unfold State.setCourse; (repeat' split) <;> simp
@[simp] theorem State.setCourse_hport (s : State) (k : SlotId) (x : ReadCourse) : (s.setCourse k x).hport = s.hport :=
    (s.setCourse_frame k x).1
@[simp] theorem State.setCourse_adm (s : State) (k : SlotId) (x : ReadCourse) : (s.setCourse k x).adm = s.adm :=
    (s.setCourse_frame k x).2.1
@[simp] theorem State.setCourse_tt_charges (s : State) (k : SlotId) (x : ReadCourse) : (s.setCourse k x).tt.charges = s.tt.charges :=
    (s.setCourse_frame k x).2.2.1
@[simp] theorem State.setCourse_tt_tagMap (s : State) (k : SlotId) (x : ReadCourse) : (s.setCourse k x).tt.tagMap = s.tt.tagMap :=
    (s.setCourse_frame k x).2.2.2.1
@[simp] theorem State.setCourse_tt_holding (s : State) (k : SlotId) (x : ReadCourse) : (s.setCourse k x).tt.holding = s.tt.holding :=
    (s.setCourse_frame k x).2.2.2.2.1
@[simp] theorem State.setCourse_mb (s : State) (k : SlotId) (x : ReadCourse) : (s.setCourse k x).mb = s.mb :=
    (s.setCourse_frame k x).2.2.2.2.2.1
@[simp] theorem State.setCourse_fl (s : State) (k : SlotId) (x : ReadCourse) : (s.setCourse k x).fl = s.fl :=
    (s.setCourse_frame k x).2.2.2.2.2.2.1
@[simp] theorem State.setCourse_es (s : State) (k : SlotId) (x : ReadCourse) : (s.setCourse k x).es = s.es :=
    (s.setCourse_frame k x).2.2.2.2.2.2.2.1
@[simp] theorem State.setCourse_mport (s : State) (k : SlotId) (x : ReadCourse) : (s.setCourse k x).mport = s.mport :=
    (s.setCourse_frame k x).2.2.2.2.2.2.2.2.1
@[simp] theorem State.setCourse_resp (s : State) (k : SlotId) (x : ReadCourse) : (s.setCourse k x).resp = s.resp :=
    (s.setCourse_frame k x).2.2.2.2.2.2.2.2.2.1
@[simp] theorem State.setCourse_meter (s : State) (k : SlotId) (x : ReadCourse) : (s.setCourse k x).meter = s.meter :=
    (s.setCourse_frame k x).2.2.2.2.2.2.2.2.2.2.1
@[simp] theorem State.setCourse_mgmt (s : State) (k : SlotId) (x : ReadCourse) : (s.setCourse k x).mgmt = s.mgmt :=
    (s.setCourse_frame k x).2.2.2.2.2.2.2.2.2.2.2.1
@[simp] theorem State.setCourse_pending (s : State) (k : SlotId) (x : ReadCourse) : (s.setCourse k x).pending = s.pending :=
    (s.setCourse_frame k x).2.2.2.2.2.2.2.2.2.2.2.2.1
@[simp] theorem State.setCourse_choices (s : State) (k : SlotId) (x : ReadCourse) : (s.setCourse k x).choices = s.choices :=
    (s.setCourse_frame k x).2.2.2.2.2.2.2.2.2.2.2.2.2
@[simp] theorem State.setCourse_buffer (s : State) (k : SlotId) (x : ReadCourse) (b : BufferId) :
    (s.setCourse k x).buffer b = s.buffer b := State.buffer_congr (s.setCourse_mb k x) b
@[simp] theorem State.setCourse_entry (s : State) (k : SlotId) (x : ReadCourse) (e : EntryId) :
    (s.setCourse k x).entry e = s.entry e := State.entry_congr (s.setCourse_es k x) e
@[simp] theorem State.setCourse_record (s : State) (k : SlotId) (x : ReadCourse) (src : Source) :
    (s.setCourse k x).record src = s.record src := State.record_congr (s.setCourse_resp k x) src
@[simp] theorem State.setCourse_latch (s : State) (k : SlotId) (x : ReadCourse) (src : Source) :
    (s.setCourse k x).latch src = s.latch src := State.latch_congr (s.setCourse_fl k x) src
@[simp] theorem State.setCourse_flushOrder (s : State) (k : SlotId) (x : ReadCourse) (src : Source) :
    (s.setCourse k x).flushOrder src = s.flushOrder src := State.flushOrder_congr (s.setCourse_fl k x) src
@[simp] theorem State.setCourse_holdingOf (s : State) (k : SlotId) (x : ReadCourse) (src : Source) :
    (s.setCourse k x).holdingOf src = s.holdingOf src := congrArg (tget · src) (s.setCourse_tt_holding k x)
@[simp] theorem State.setCourse_meterOf (s : State) (k : SlotId) (x : ReadCourse) (src : Source) :
    (s.setCourse k x).meterOf src = s.meterOf src := State.meterOf_congr (s.setCourse_meter k x) src
@[simp] theorem State.setCourse_counter (s : State) (k : SlotId) (x : ReadCourse) (c : Counter) :
    (s.setCourse k x).counter c = s.counter c := State.counter_congr (s.setCourse_mgmt k x) c

/-! ### What `State.becomeReady` leaves -/

theorem State.becomeReady_frame (s : State) (k : SlotId) :
    (s.becomeReady k).hport = s.hport ∧ (s.becomeReady k).adm = s.adm
      ∧ (s.becomeReady k).tt.charges = s.tt.charges ∧ (s.becomeReady k).tt.tagMap = s.tt.tagMap
      ∧ (s.becomeReady k).tt.holding = s.tt.holding ∧ (s.becomeReady k).mb = s.mb ∧ (s.becomeReady k).fl = s.fl
      ∧ (s.becomeReady k).es = s.es ∧ (s.becomeReady k).mport.up = s.mport.up
      ∧ (s.becomeReady k).mport.credits = s.mport.credits
      ∧ (s.becomeReady k).mport.outstanding = s.mport.outstanding
      ∧ (s.becomeReady k).mport.orphaned = s.mport.orphaned ∧ (s.becomeReady k).mport.sent = s.mport.sent
      ∧ (s.becomeReady k).mport.restarts = s.mport.restarts ∧ (s.becomeReady k).resp = s.resp
      ∧ (s.becomeReady k).meter = s.meter ∧ (s.becomeReady k).mgmt = s.mgmt
      ∧ (s.becomeReady k).pending = s.pending ∧ (s.becomeReady k).choices = s.choices := by
  unfold State.becomeReady; (repeat' split) <;> simp
@[simp] theorem State.becomeReady_hport (s : State) (k : SlotId) : (s.becomeReady k).hport = s.hport :=
    (s.becomeReady_frame k).1
@[simp] theorem State.becomeReady_adm (s : State) (k : SlotId) : (s.becomeReady k).adm = s.adm :=
    (s.becomeReady_frame k).2.1
@[simp] theorem State.becomeReady_tt_charges (s : State) (k : SlotId) : (s.becomeReady k).tt.charges = s.tt.charges :=
    (s.becomeReady_frame k).2.2.1
@[simp] theorem State.becomeReady_tt_tagMap (s : State) (k : SlotId) : (s.becomeReady k).tt.tagMap = s.tt.tagMap :=
    (s.becomeReady_frame k).2.2.2.1
@[simp] theorem State.becomeReady_tt_holding (s : State) (k : SlotId) : (s.becomeReady k).tt.holding = s.tt.holding :=
    (s.becomeReady_frame k).2.2.2.2.1
@[simp] theorem State.becomeReady_mb (s : State) (k : SlotId) : (s.becomeReady k).mb = s.mb :=
    (s.becomeReady_frame k).2.2.2.2.2.1
@[simp] theorem State.becomeReady_fl (s : State) (k : SlotId) : (s.becomeReady k).fl = s.fl :=
    (s.becomeReady_frame k).2.2.2.2.2.2.1
@[simp] theorem State.becomeReady_es (s : State) (k : SlotId) : (s.becomeReady k).es = s.es :=
    (s.becomeReady_frame k).2.2.2.2.2.2.2.1
@[simp] theorem State.becomeReady_mport_up (s : State) (k : SlotId) : (s.becomeReady k).mport.up = s.mport.up :=
    (s.becomeReady_frame k).2.2.2.2.2.2.2.2.1
@[simp] theorem State.becomeReady_mport_credits (s : State) (k : SlotId) : (s.becomeReady k).mport.credits = s.mport.credits :=
    (s.becomeReady_frame k).2.2.2.2.2.2.2.2.2.1
@[simp] theorem State.becomeReady_mport_outstanding (s : State) (k : SlotId) : (s.becomeReady k).mport.outstanding = s.mport.outstanding :=
    (s.becomeReady_frame k).2.2.2.2.2.2.2.2.2.2.1
@[simp] theorem State.becomeReady_mport_orphaned (s : State) (k : SlotId) : (s.becomeReady k).mport.orphaned = s.mport.orphaned :=
    (s.becomeReady_frame k).2.2.2.2.2.2.2.2.2.2.2.1
@[simp] theorem State.becomeReady_mport_sent (s : State) (k : SlotId) : (s.becomeReady k).mport.sent = s.mport.sent :=
    (s.becomeReady_frame k).2.2.2.2.2.2.2.2.2.2.2.2.1
@[simp] theorem State.becomeReady_mport_restarts (s : State) (k : SlotId) : (s.becomeReady k).mport.restarts = s.mport.restarts :=
    (s.becomeReady_frame k).2.2.2.2.2.2.2.2.2.2.2.2.2.1
@[simp] theorem State.becomeReady_resp (s : State) (k : SlotId) : (s.becomeReady k).resp = s.resp :=
    (s.becomeReady_frame k).2.2.2.2.2.2.2.2.2.2.2.2.2.2.1
@[simp] theorem State.becomeReady_meter (s : State) (k : SlotId) : (s.becomeReady k).meter = s.meter :=
    (s.becomeReady_frame k).2.2.2.2.2.2.2.2.2.2.2.2.2.2.2.1
@[simp] theorem State.becomeReady_mgmt (s : State) (k : SlotId) : (s.becomeReady k).mgmt = s.mgmt :=
    (s.becomeReady_frame k).2.2.2.2.2.2.2.2.2.2.2.2.2.2.2.2.1
@[simp] theorem State.becomeReady_pending (s : State) (k : SlotId) : (s.becomeReady k).pending = s.pending :=
    (s.becomeReady_frame k).2.2.2.2.2.2.2.2.2.2.2.2.2.2.2.2.2.1
@[simp] theorem State.becomeReady_choices (s : State) (k : SlotId) : (s.becomeReady k).choices = s.choices :=
    (s.becomeReady_frame k).2.2.2.2.2.2.2.2.2.2.2.2.2.2.2.2.2.2
@[simp] theorem State.becomeReady_buffer (s : State) (k : SlotId) (b : BufferId) :
    (s.becomeReady k).buffer b = s.buffer b := State.buffer_congr (s.becomeReady_mb k) b
@[simp] theorem State.becomeReady_entry (s : State) (k : SlotId) (e : EntryId) :
    (s.becomeReady k).entry e = s.entry e := State.entry_congr (s.becomeReady_es k) e
@[simp] theorem State.becomeReady_record (s : State) (k : SlotId) (src : Source) :
    (s.becomeReady k).record src = s.record src := State.record_congr (s.becomeReady_resp k) src
@[simp] theorem State.becomeReady_latch (s : State) (k : SlotId) (src : Source) :
    (s.becomeReady k).latch src = s.latch src := State.latch_congr (s.becomeReady_fl k) src
@[simp] theorem State.becomeReady_flushOrder (s : State) (k : SlotId) (src : Source) :
    (s.becomeReady k).flushOrder src = s.flushOrder src := State.flushOrder_congr (s.becomeReady_fl k) src
@[simp] theorem State.becomeReady_holdingOf (s : State) (k : SlotId) (src : Source) :
    (s.becomeReady k).holdingOf src = s.holdingOf src := congrArg (tget · src) (s.becomeReady_tt_holding k)
@[simp] theorem State.becomeReady_meterOf (s : State) (k : SlotId) (src : Source) :
    (s.becomeReady k).meterOf src = s.meterOf src := State.meterOf_congr (s.becomeReady_meter k) src
@[simp] theorem State.becomeReady_counter (s : State) (k : SlotId) (c : Counter) :
    (s.becomeReady k).counter c = s.counter c := State.counter_congr (s.becomeReady_mgmt k) c

/-! ### What `State.becomeReturned` leaves -/

theorem State.becomeReturned_frame (s : State) (k : SlotId) (r : ReadResult) (x : Bool) :
    (s.becomeReturned k r x).hport = s.hport ∧ (s.becomeReturned k r x).adm = s.adm
      ∧ (s.becomeReturned k r x).tt.tagMap = s.tt.tagMap ∧ (s.becomeReturned k r x).mb = s.mb
      ∧ (s.becomeReturned k r x).fl = s.fl ∧ (s.becomeReturned k r x).es = s.es
      ∧ (s.becomeReturned k r x).mport.up = s.mport.up
      ∧ (s.becomeReturned k r x).mport.credits = s.mport.credits
      ∧ (s.becomeReturned k r x).mport.iq = s.mport.iq ∧ (s.becomeReturned k r x).mport.sent = s.mport.sent
      ∧ (s.becomeReturned k r x).mport.restarts = s.mport.restarts
      ∧ (s.becomeReturned k r x).resp.records = s.resp.records ∧ (s.becomeReturned k r x).resp.rq = s.resp.rq
      ∧ (s.becomeReturned k r x).resp.credits = s.resp.credits ∧ (s.becomeReturned k r x).meter = s.meter
      ∧ (s.becomeReturned k r x).mgmt = s.mgmt ∧ (s.becomeReturned k r x).pending = s.pending
      ∧ (s.becomeReturned k r x).choices = s.choices := by
  unfold State.becomeReturned; (repeat' split) <;> simp
@[simp] theorem State.becomeReturned_hport (s : State) (k : SlotId) (r : ReadResult) (x : Bool) : (s.becomeReturned k r x).hport = s.hport :=
    (s.becomeReturned_frame k r x).1
@[simp] theorem State.becomeReturned_adm (s : State) (k : SlotId) (r : ReadResult) (x : Bool) : (s.becomeReturned k r x).adm = s.adm :=
    (s.becomeReturned_frame k r x).2.1
@[simp] theorem State.becomeReturned_tt_tagMap (s : State) (k : SlotId) (r : ReadResult) (x : Bool) : (s.becomeReturned k r x).tt.tagMap = s.tt.tagMap :=
    (s.becomeReturned_frame k r x).2.2.1
@[simp] theorem State.becomeReturned_mb (s : State) (k : SlotId) (r : ReadResult) (x : Bool) : (s.becomeReturned k r x).mb = s.mb :=
    (s.becomeReturned_frame k r x).2.2.2.1
@[simp] theorem State.becomeReturned_fl (s : State) (k : SlotId) (r : ReadResult) (x : Bool) : (s.becomeReturned k r x).fl = s.fl :=
    (s.becomeReturned_frame k r x).2.2.2.2.1
@[simp] theorem State.becomeReturned_es (s : State) (k : SlotId) (r : ReadResult) (x : Bool) : (s.becomeReturned k r x).es = s.es :=
    (s.becomeReturned_frame k r x).2.2.2.2.2.1
@[simp] theorem State.becomeReturned_mport_up (s : State) (k : SlotId) (r : ReadResult) (x : Bool) : (s.becomeReturned k r x).mport.up = s.mport.up :=
    (s.becomeReturned_frame k r x).2.2.2.2.2.2.1
@[simp] theorem State.becomeReturned_mport_credits (s : State) (k : SlotId) (r : ReadResult) (x : Bool) : (s.becomeReturned k r x).mport.credits = s.mport.credits :=
    (s.becomeReturned_frame k r x).2.2.2.2.2.2.2.1
@[simp] theorem State.becomeReturned_mport_iq (s : State) (k : SlotId) (r : ReadResult) (x : Bool) : (s.becomeReturned k r x).mport.iq = s.mport.iq :=
    (s.becomeReturned_frame k r x).2.2.2.2.2.2.2.2.1
@[simp] theorem State.becomeReturned_mport_sent (s : State) (k : SlotId) (r : ReadResult) (x : Bool) : (s.becomeReturned k r x).mport.sent = s.mport.sent :=
    (s.becomeReturned_frame k r x).2.2.2.2.2.2.2.2.2.1
@[simp] theorem State.becomeReturned_mport_restarts (s : State) (k : SlotId) (r : ReadResult) (x : Bool) : (s.becomeReturned k r x).mport.restarts = s.mport.restarts :=
    (s.becomeReturned_frame k r x).2.2.2.2.2.2.2.2.2.2.1
@[simp] theorem State.becomeReturned_resp_records (s : State) (k : SlotId) (r : ReadResult) (x : Bool) : (s.becomeReturned k r x).resp.records = s.resp.records :=
    (s.becomeReturned_frame k r x).2.2.2.2.2.2.2.2.2.2.2.1
@[simp] theorem State.becomeReturned_resp_rq (s : State) (k : SlotId) (r : ReadResult) (x : Bool) : (s.becomeReturned k r x).resp.rq = s.resp.rq :=
    (s.becomeReturned_frame k r x).2.2.2.2.2.2.2.2.2.2.2.2.1
@[simp] theorem State.becomeReturned_resp_credits (s : State) (k : SlotId) (r : ReadResult) (x : Bool) : (s.becomeReturned k r x).resp.credits = s.resp.credits :=
    (s.becomeReturned_frame k r x).2.2.2.2.2.2.2.2.2.2.2.2.2.1
@[simp] theorem State.becomeReturned_meter (s : State) (k : SlotId) (r : ReadResult) (x : Bool) : (s.becomeReturned k r x).meter = s.meter :=
    (s.becomeReturned_frame k r x).2.2.2.2.2.2.2.2.2.2.2.2.2.2.1
@[simp] theorem State.becomeReturned_mgmt (s : State) (k : SlotId) (r : ReadResult) (x : Bool) : (s.becomeReturned k r x).mgmt = s.mgmt :=
    (s.becomeReturned_frame k r x).2.2.2.2.2.2.2.2.2.2.2.2.2.2.2.1
@[simp] theorem State.becomeReturned_pending (s : State) (k : SlotId) (r : ReadResult) (x : Bool) : (s.becomeReturned k r x).pending = s.pending :=
    (s.becomeReturned_frame k r x).2.2.2.2.2.2.2.2.2.2.2.2.2.2.2.2.1
@[simp] theorem State.becomeReturned_choices (s : State) (k : SlotId) (r : ReadResult) (x : Bool) : (s.becomeReturned k r x).choices = s.choices :=
    (s.becomeReturned_frame k r x).2.2.2.2.2.2.2.2.2.2.2.2.2.2.2.2.2
@[simp] theorem State.becomeReturned_buffer (s : State) (k : SlotId) (r : ReadResult) (x : Bool) (b : BufferId) :
    (s.becomeReturned k r x).buffer b = s.buffer b := State.buffer_congr (s.becomeReturned_mb k r x) b
@[simp] theorem State.becomeReturned_entry (s : State) (k : SlotId) (r : ReadResult) (x : Bool) (e : EntryId) :
    (s.becomeReturned k r x).entry e = s.entry e := State.entry_congr (s.becomeReturned_es k r x) e
@[simp] theorem State.becomeReturned_record (s : State) (k : SlotId) (r : ReadResult) (x : Bool) (src : Source) :
    (s.becomeReturned k r x).record src = s.record src := congrArg (tget · src) (s.becomeReturned_resp_records k r x)
@[simp] theorem State.becomeReturned_latch (s : State) (k : SlotId) (r : ReadResult) (x : Bool) (src : Source) :
    (s.becomeReturned k r x).latch src = s.latch src := State.latch_congr (s.becomeReturned_fl k r x) src
@[simp] theorem State.becomeReturned_flushOrder (s : State) (k : SlotId) (r : ReadResult) (x : Bool) (src : Source) :
    (s.becomeReturned k r x).flushOrder src = s.flushOrder src := State.flushOrder_congr (s.becomeReturned_fl k r x) src
@[simp] theorem State.becomeReturned_meterOf (s : State) (k : SlotId) (r : ReadResult) (x : Bool) (src : Source) :
    (s.becomeReturned k r x).meterOf src = s.meterOf src := State.meterOf_congr (s.becomeReturned_meter k r x) src
@[simp] theorem State.becomeReturned_counter (s : State) (k : SlotId) (r : ReadResult) (x : Bool) (c : Counter) :
    (s.becomeReturned k r x).counter c = s.counter c := State.counter_congr (s.becomeReturned_mgmt k r x) c

/-! ### What `State.wakeReads` leaves -/

theorem State.wakeReads_frame (s : State) (l : List SlotId) :
    (s.wakeReads l).hport = s.hport ∧ (s.wakeReads l).adm = s.adm ∧ (s.wakeReads l).tt.charges = s.tt.charges
      ∧ (s.wakeReads l).tt.tagMap = s.tt.tagMap ∧ (s.wakeReads l).tt.holding = s.tt.holding
      ∧ (s.wakeReads l).mb = s.mb ∧ (s.wakeReads l).fl = s.fl ∧ (s.wakeReads l).es = s.es
      ∧ (s.wakeReads l).mport.up = s.mport.up ∧ (s.wakeReads l).mport.credits = s.mport.credits
      ∧ (s.wakeReads l).mport.outstanding = s.mport.outstanding
      ∧ (s.wakeReads l).mport.orphaned = s.mport.orphaned ∧ (s.wakeReads l).mport.sent = s.mport.sent
      ∧ (s.wakeReads l).mport.restarts = s.mport.restarts ∧ (s.wakeReads l).resp = s.resp
      ∧ (s.wakeReads l).meter = s.meter ∧ (s.wakeReads l).mgmt = s.mgmt ∧ (s.wakeReads l).pending = s.pending
      ∧ (s.wakeReads l).choices = s.choices := by
  unfold State.wakeReads
  exact ⟨foldl_keeps (fun t : State => t.hport) _ (by intro t x; simp) _ _,
    foldl_keeps (fun t : State => t.adm) _ (by intro t x; simp) _ _,
    foldl_keeps (fun t : State => t.tt.charges) _ (by intro t x; simp) _ _,
    foldl_keeps (fun t : State => t.tt.tagMap) _ (by intro t x; simp) _ _,
    foldl_keeps (fun t : State => t.tt.holding) _ (by intro t x; simp) _ _,
    foldl_keeps (fun t : State => t.mb) _ (by intro t x; simp) _ _,
    foldl_keeps (fun t : State => t.fl) _ (by intro t x; simp) _ _,
    foldl_keeps (fun t : State => t.es) _ (by intro t x; simp) _ _,
    foldl_keeps (fun t : State => t.mport.up) _ (by intro t x; simp) _ _,
    foldl_keeps (fun t : State => t.mport.credits) _ (by intro t x; simp) _ _,
    foldl_keeps (fun t : State => t.mport.outstanding) _ (by intro t x; simp) _ _,
    foldl_keeps (fun t : State => t.mport.orphaned) _ (by intro t x; simp) _ _,
    foldl_keeps (fun t : State => t.mport.sent) _ (by intro t x; simp) _ _,
    foldl_keeps (fun t : State => t.mport.restarts) _ (by intro t x; simp) _ _,
    foldl_keeps (fun t : State => t.resp) _ (by intro t x; simp) _ _,
    foldl_keeps (fun t : State => t.meter) _ (by intro t x; simp) _ _,
    foldl_keeps (fun t : State => t.mgmt) _ (by intro t x; simp) _ _,
    foldl_keeps (fun t : State => t.pending) _ (by intro t x; simp) _ _,
    foldl_keeps (fun t : State => t.choices) _ (by intro t x; simp) _ _⟩
@[simp] theorem State.wakeReads_hport (s : State) (l : List SlotId) : (s.wakeReads l).hport = s.hport :=
    (s.wakeReads_frame l).1
@[simp] theorem State.wakeReads_adm (s : State) (l : List SlotId) : (s.wakeReads l).adm = s.adm :=
    (s.wakeReads_frame l).2.1
@[simp] theorem State.wakeReads_tt_charges (s : State) (l : List SlotId) : (s.wakeReads l).tt.charges = s.tt.charges :=
    (s.wakeReads_frame l).2.2.1
@[simp] theorem State.wakeReads_tt_tagMap (s : State) (l : List SlotId) : (s.wakeReads l).tt.tagMap = s.tt.tagMap :=
    (s.wakeReads_frame l).2.2.2.1
@[simp] theorem State.wakeReads_tt_holding (s : State) (l : List SlotId) : (s.wakeReads l).tt.holding = s.tt.holding :=
    (s.wakeReads_frame l).2.2.2.2.1
@[simp] theorem State.wakeReads_mb (s : State) (l : List SlotId) : (s.wakeReads l).mb = s.mb :=
    (s.wakeReads_frame l).2.2.2.2.2.1
@[simp] theorem State.wakeReads_fl (s : State) (l : List SlotId) : (s.wakeReads l).fl = s.fl :=
    (s.wakeReads_frame l).2.2.2.2.2.2.1
@[simp] theorem State.wakeReads_es (s : State) (l : List SlotId) : (s.wakeReads l).es = s.es :=
    (s.wakeReads_frame l).2.2.2.2.2.2.2.1
@[simp] theorem State.wakeReads_mport_up (s : State) (l : List SlotId) : (s.wakeReads l).mport.up = s.mport.up :=
    (s.wakeReads_frame l).2.2.2.2.2.2.2.2.1
@[simp] theorem State.wakeReads_mport_credits (s : State) (l : List SlotId) : (s.wakeReads l).mport.credits = s.mport.credits :=
    (s.wakeReads_frame l).2.2.2.2.2.2.2.2.2.1
@[simp] theorem State.wakeReads_mport_outstanding (s : State) (l : List SlotId) : (s.wakeReads l).mport.outstanding = s.mport.outstanding :=
    (s.wakeReads_frame l).2.2.2.2.2.2.2.2.2.2.1
@[simp] theorem State.wakeReads_mport_orphaned (s : State) (l : List SlotId) : (s.wakeReads l).mport.orphaned = s.mport.orphaned :=
    (s.wakeReads_frame l).2.2.2.2.2.2.2.2.2.2.2.1
@[simp] theorem State.wakeReads_mport_sent (s : State) (l : List SlotId) : (s.wakeReads l).mport.sent = s.mport.sent :=
    (s.wakeReads_frame l).2.2.2.2.2.2.2.2.2.2.2.2.1
@[simp] theorem State.wakeReads_mport_restarts (s : State) (l : List SlotId) : (s.wakeReads l).mport.restarts = s.mport.restarts :=
    (s.wakeReads_frame l).2.2.2.2.2.2.2.2.2.2.2.2.2.1
@[simp] theorem State.wakeReads_resp (s : State) (l : List SlotId) : (s.wakeReads l).resp = s.resp :=
    (s.wakeReads_frame l).2.2.2.2.2.2.2.2.2.2.2.2.2.2.1
@[simp] theorem State.wakeReads_meter (s : State) (l : List SlotId) : (s.wakeReads l).meter = s.meter :=
    (s.wakeReads_frame l).2.2.2.2.2.2.2.2.2.2.2.2.2.2.2.1
@[simp] theorem State.wakeReads_mgmt (s : State) (l : List SlotId) : (s.wakeReads l).mgmt = s.mgmt :=
    (s.wakeReads_frame l).2.2.2.2.2.2.2.2.2.2.2.2.2.2.2.2.1
@[simp] theorem State.wakeReads_pending (s : State) (l : List SlotId) : (s.wakeReads l).pending = s.pending :=
    (s.wakeReads_frame l).2.2.2.2.2.2.2.2.2.2.2.2.2.2.2.2.2.1
@[simp] theorem State.wakeReads_choices (s : State) (l : List SlotId) : (s.wakeReads l).choices = s.choices :=
    (s.wakeReads_frame l).2.2.2.2.2.2.2.2.2.2.2.2.2.2.2.2.2.2
@[simp] theorem State.wakeReads_buffer (s : State) (l : List SlotId) (b : BufferId) :
    (s.wakeReads l).buffer b = s.buffer b := State.buffer_congr (s.wakeReads_mb l) b
@[simp] theorem State.wakeReads_entry (s : State) (l : List SlotId) (e : EntryId) :
    (s.wakeReads l).entry e = s.entry e := State.entry_congr (s.wakeReads_es l) e
@[simp] theorem State.wakeReads_record (s : State) (l : List SlotId) (src : Source) :
    (s.wakeReads l).record src = s.record src := State.record_congr (s.wakeReads_resp l) src
@[simp] theorem State.wakeReads_latch (s : State) (l : List SlotId) (src : Source) :
    (s.wakeReads l).latch src = s.latch src := State.latch_congr (s.wakeReads_fl l) src
@[simp] theorem State.wakeReads_flushOrder (s : State) (l : List SlotId) (src : Source) :
    (s.wakeReads l).flushOrder src = s.flushOrder src := State.flushOrder_congr (s.wakeReads_fl l) src
@[simp] theorem State.wakeReads_holdingOf (s : State) (l : List SlotId) (src : Source) :
    (s.wakeReads l).holdingOf src = s.holdingOf src := congrArg (tget · src) (s.wakeReads_tt_holding l)
@[simp] theorem State.wakeReads_meterOf (s : State) (l : List SlotId) (src : Source) :
    (s.wakeReads l).meterOf src = s.meterOf src := State.meterOf_congr (s.wakeReads_meter l) src
@[simp] theorem State.wakeReads_counter (s : State) (l : List SlotId) (c : Counter) :
    (s.wakeReads l).counter c = s.counter c := State.counter_congr (s.wakeReads_mgmt l) c

/-! ### What `State.serveAttached` leaves -/

theorem State.serveAttached_frame (s : State) (l : List SlotId) (x : LineData) :
    (s.serveAttached l x).hport = s.hport ∧ (s.serveAttached l x).adm = s.adm
      ∧ (s.serveAttached l x).tt.tagMap = s.tt.tagMap ∧ (s.serveAttached l x).mb = s.mb
      ∧ (s.serveAttached l x).fl = s.fl ∧ (s.serveAttached l x).es = s.es
      ∧ (s.serveAttached l x).mport.up = s.mport.up ∧ (s.serveAttached l x).mport.credits = s.mport.credits
      ∧ (s.serveAttached l x).mport.iq = s.mport.iq ∧ (s.serveAttached l x).mport.sent = s.mport.sent
      ∧ (s.serveAttached l x).mport.restarts = s.mport.restarts
      ∧ (s.serveAttached l x).resp.records = s.resp.records ∧ (s.serveAttached l x).resp.rq = s.resp.rq
      ∧ (s.serveAttached l x).resp.credits = s.resp.credits ∧ (s.serveAttached l x).meter = s.meter
      ∧ (s.serveAttached l x).mgmt = s.mgmt ∧ (s.serveAttached l x).pending = s.pending
      ∧ (s.serveAttached l x).choices = s.choices := by
  unfold State.serveAttached
  exact ⟨foldl_keeps (fun t : State => t.hport) _ (by intro t x; simp) _ _,
    foldl_keeps (fun t : State => t.adm) _ (by intro t x; simp) _ _,
    foldl_keeps (fun t : State => t.tt.tagMap) _ (by intro t x; simp) _ _,
    foldl_keeps (fun t : State => t.mb) _ (by intro t x; simp) _ _,
    foldl_keeps (fun t : State => t.fl) _ (by intro t x; simp) _ _,
    foldl_keeps (fun t : State => t.es) _ (by intro t x; simp) _ _,
    foldl_keeps (fun t : State => t.mport.up) _ (by intro t x; simp) _ _,
    foldl_keeps (fun t : State => t.mport.credits) _ (by intro t x; simp) _ _,
    foldl_keeps (fun t : State => t.mport.iq) _ (by intro t x; simp) _ _,
    foldl_keeps (fun t : State => t.mport.sent) _ (by intro t x; simp) _ _,
    foldl_keeps (fun t : State => t.mport.restarts) _ (by intro t x; simp) _ _,
    foldl_keeps (fun t : State => t.resp.records) _ (by intro t x; simp) _ _,
    foldl_keeps (fun t : State => t.resp.rq) _ (by intro t x; simp) _ _,
    foldl_keeps (fun t : State => t.resp.credits) _ (by intro t x; simp) _ _,
    foldl_keeps (fun t : State => t.meter) _ (by intro t x; simp) _ _,
    foldl_keeps (fun t : State => t.mgmt) _ (by intro t x; simp) _ _,
    foldl_keeps (fun t : State => t.pending) _ (by intro t x; simp) _ _,
    foldl_keeps (fun t : State => t.choices) _ (by intro t x; simp) _ _⟩
@[simp] theorem State.serveAttached_hport (s : State) (l : List SlotId) (x : LineData) : (s.serveAttached l x).hport = s.hport :=
    (s.serveAttached_frame l x).1
@[simp] theorem State.serveAttached_adm (s : State) (l : List SlotId) (x : LineData) : (s.serveAttached l x).adm = s.adm :=
    (s.serveAttached_frame l x).2.1
@[simp] theorem State.serveAttached_tt_tagMap (s : State) (l : List SlotId) (x : LineData) : (s.serveAttached l x).tt.tagMap = s.tt.tagMap :=
    (s.serveAttached_frame l x).2.2.1
@[simp] theorem State.serveAttached_mb (s : State) (l : List SlotId) (x : LineData) : (s.serveAttached l x).mb = s.mb :=
    (s.serveAttached_frame l x).2.2.2.1
@[simp] theorem State.serveAttached_fl (s : State) (l : List SlotId) (x : LineData) : (s.serveAttached l x).fl = s.fl :=
    (s.serveAttached_frame l x).2.2.2.2.1
@[simp] theorem State.serveAttached_es (s : State) (l : List SlotId) (x : LineData) : (s.serveAttached l x).es = s.es :=
    (s.serveAttached_frame l x).2.2.2.2.2.1
@[simp] theorem State.serveAttached_mport_up (s : State) (l : List SlotId) (x : LineData) : (s.serveAttached l x).mport.up = s.mport.up :=
    (s.serveAttached_frame l x).2.2.2.2.2.2.1
@[simp] theorem State.serveAttached_mport_credits (s : State) (l : List SlotId) (x : LineData) : (s.serveAttached l x).mport.credits = s.mport.credits :=
    (s.serveAttached_frame l x).2.2.2.2.2.2.2.1
@[simp] theorem State.serveAttached_mport_iq (s : State) (l : List SlotId) (x : LineData) : (s.serveAttached l x).mport.iq = s.mport.iq :=
    (s.serveAttached_frame l x).2.2.2.2.2.2.2.2.1
@[simp] theorem State.serveAttached_mport_sent (s : State) (l : List SlotId) (x : LineData) : (s.serveAttached l x).mport.sent = s.mport.sent :=
    (s.serveAttached_frame l x).2.2.2.2.2.2.2.2.2.1
@[simp] theorem State.serveAttached_mport_restarts (s : State) (l : List SlotId) (x : LineData) : (s.serveAttached l x).mport.restarts = s.mport.restarts :=
    (s.serveAttached_frame l x).2.2.2.2.2.2.2.2.2.2.1
@[simp] theorem State.serveAttached_resp_records (s : State) (l : List SlotId) (x : LineData) : (s.serveAttached l x).resp.records = s.resp.records :=
    (s.serveAttached_frame l x).2.2.2.2.2.2.2.2.2.2.2.1
@[simp] theorem State.serveAttached_resp_rq (s : State) (l : List SlotId) (x : LineData) : (s.serveAttached l x).resp.rq = s.resp.rq :=
    (s.serveAttached_frame l x).2.2.2.2.2.2.2.2.2.2.2.2.1
@[simp] theorem State.serveAttached_resp_credits (s : State) (l : List SlotId) (x : LineData) : (s.serveAttached l x).resp.credits = s.resp.credits :=
    (s.serveAttached_frame l x).2.2.2.2.2.2.2.2.2.2.2.2.2.1
@[simp] theorem State.serveAttached_meter (s : State) (l : List SlotId) (x : LineData) : (s.serveAttached l x).meter = s.meter :=
    (s.serveAttached_frame l x).2.2.2.2.2.2.2.2.2.2.2.2.2.2.1
@[simp] theorem State.serveAttached_mgmt (s : State) (l : List SlotId) (x : LineData) : (s.serveAttached l x).mgmt = s.mgmt :=
    (s.serveAttached_frame l x).2.2.2.2.2.2.2.2.2.2.2.2.2.2.2.1
@[simp] theorem State.serveAttached_pending (s : State) (l : List SlotId) (x : LineData) : (s.serveAttached l x).pending = s.pending :=
    (s.serveAttached_frame l x).2.2.2.2.2.2.2.2.2.2.2.2.2.2.2.2.1
@[simp] theorem State.serveAttached_choices (s : State) (l : List SlotId) (x : LineData) : (s.serveAttached l x).choices = s.choices :=
    (s.serveAttached_frame l x).2.2.2.2.2.2.2.2.2.2.2.2.2.2.2.2.2
@[simp] theorem State.serveAttached_buffer (s : State) (l : List SlotId) (x : LineData) (b : BufferId) :
    (s.serveAttached l x).buffer b = s.buffer b := State.buffer_congr (s.serveAttached_mb l x) b
@[simp] theorem State.serveAttached_entry (s : State) (l : List SlotId) (x : LineData) (e : EntryId) :
    (s.serveAttached l x).entry e = s.entry e := State.entry_congr (s.serveAttached_es l x) e
@[simp] theorem State.serveAttached_record (s : State) (l : List SlotId) (x : LineData) (src : Source) :
    (s.serveAttached l x).record src = s.record src := congrArg (tget · src) (s.serveAttached_resp_records l x)
@[simp] theorem State.serveAttached_latch (s : State) (l : List SlotId) (x : LineData) (src : Source) :
    (s.serveAttached l x).latch src = s.latch src := State.latch_congr (s.serveAttached_fl l x) src
@[simp] theorem State.serveAttached_flushOrder (s : State) (l : List SlotId) (x : LineData) (src : Source) :
    (s.serveAttached l x).flushOrder src = s.flushOrder src := State.flushOrder_congr (s.serveAttached_fl l x) src
@[simp] theorem State.serveAttached_meterOf (s : State) (l : List SlotId) (x : LineData) (src : Source) :
    (s.serveAttached l x).meterOf src = s.meterOf src := State.meterOf_congr (s.serveAttached_meter l x) src
@[simp] theorem State.serveAttached_counter (s : State) (l : List SlotId) (x : LineData) (c : Counter) :
    (s.serveAttached l x).counter c = s.counter c := State.counter_congr (s.serveAttached_mgmt l x) c

/-! ### What `State.sealRecord` leaves -/

theorem State.sealRecord_frame (s : State) (k : Source) :
    (s.sealRecord k).hport = s.hport ∧ (s.sealRecord k).adm = s.adm ∧ (s.sealRecord k).tt = s.tt
      ∧ (s.sealRecord k).mb = s.mb ∧ (s.sealRecord k).fl = s.fl ∧ (s.sealRecord k).es = s.es
      ∧ (s.sealRecord k).mport = s.mport ∧ (s.sealRecord k).resp.rq = s.resp.rq
      ∧ (s.sealRecord k).resp.credits = s.resp.credits ∧ (s.sealRecord k).meter = s.meter
      ∧ (s.sealRecord k).mgmt = s.mgmt ∧ (s.sealRecord k).pending = s.pending
      ∧ (s.sealRecord k).choices = s.choices := by
  unfold State.sealRecord; (repeat' split) <;> simp
@[simp] theorem State.sealRecord_hport (s : State) (k : Source) : (s.sealRecord k).hport = s.hport :=
    (s.sealRecord_frame k).1
@[simp] theorem State.sealRecord_adm (s : State) (k : Source) : (s.sealRecord k).adm = s.adm :=
    (s.sealRecord_frame k).2.1
@[simp] theorem State.sealRecord_tt (s : State) (k : Source) : (s.sealRecord k).tt = s.tt :=
    (s.sealRecord_frame k).2.2.1
@[simp] theorem State.sealRecord_mb (s : State) (k : Source) : (s.sealRecord k).mb = s.mb :=
    (s.sealRecord_frame k).2.2.2.1
@[simp] theorem State.sealRecord_fl (s : State) (k : Source) : (s.sealRecord k).fl = s.fl :=
    (s.sealRecord_frame k).2.2.2.2.1
@[simp] theorem State.sealRecord_es (s : State) (k : Source) : (s.sealRecord k).es = s.es :=
    (s.sealRecord_frame k).2.2.2.2.2.1
@[simp] theorem State.sealRecord_mport (s : State) (k : Source) : (s.sealRecord k).mport = s.mport :=
    (s.sealRecord_frame k).2.2.2.2.2.2.1
@[simp] theorem State.sealRecord_resp_rq (s : State) (k : Source) : (s.sealRecord k).resp.rq = s.resp.rq :=
    (s.sealRecord_frame k).2.2.2.2.2.2.2.1
@[simp] theorem State.sealRecord_resp_credits (s : State) (k : Source) : (s.sealRecord k).resp.credits = s.resp.credits :=
    (s.sealRecord_frame k).2.2.2.2.2.2.2.2.1
@[simp] theorem State.sealRecord_meter (s : State) (k : Source) : (s.sealRecord k).meter = s.meter :=
    (s.sealRecord_frame k).2.2.2.2.2.2.2.2.2.1
@[simp] theorem State.sealRecord_mgmt (s : State) (k : Source) : (s.sealRecord k).mgmt = s.mgmt :=
    (s.sealRecord_frame k).2.2.2.2.2.2.2.2.2.2.1
@[simp] theorem State.sealRecord_pending (s : State) (k : Source) : (s.sealRecord k).pending = s.pending :=
    (s.sealRecord_frame k).2.2.2.2.2.2.2.2.2.2.2.1
@[simp] theorem State.sealRecord_choices (s : State) (k : Source) : (s.sealRecord k).choices = s.choices :=
    (s.sealRecord_frame k).2.2.2.2.2.2.2.2.2.2.2.2
@[simp] theorem State.sealRecord_slot (s : State) (k : Source) (i : SlotId) :
    (s.sealRecord k).slot i = s.slot i := State.slot_congr (s.sealRecord_tt k) i
@[simp] theorem State.sealRecord_buffer (s : State) (k : Source) (b : BufferId) :
    (s.sealRecord k).buffer b = s.buffer b := State.buffer_congr (s.sealRecord_mb k) b
@[simp] theorem State.sealRecord_entry (s : State) (k : Source) (e : EntryId) :
    (s.sealRecord k).entry e = s.entry e := State.entry_congr (s.sealRecord_es k) e
@[simp] theorem State.sealRecord_latch (s : State) (k : Source) (src : Source) :
    (s.sealRecord k).latch src = s.latch src := State.latch_congr (s.sealRecord_fl k) src
@[simp] theorem State.sealRecord_flushOrder (s : State) (k : Source) (src : Source) :
    (s.sealRecord k).flushOrder src = s.flushOrder src := State.flushOrder_congr (s.sealRecord_fl k) src
@[simp] theorem State.sealRecord_holdingOf (s : State) (k : Source) (src : Source) :
    (s.sealRecord k).holdingOf src = s.holdingOf src := State.holdingOf_congr (s.sealRecord_tt k) src
@[simp] theorem State.sealRecord_meterOf (s : State) (k : Source) (src : Source) :
    (s.sealRecord k).meterOf src = s.meterOf src := State.meterOf_congr (s.sealRecord_meter k) src
@[simp] theorem State.sealRecord_counter (s : State) (k : Source) (c : Counter) :
    (s.sealRecord k).counter c = s.counter c := State.counter_congr (s.sealRecord_mgmt k) c

/-! ### What `State.addAck` leaves -/

theorem State.addAck_frame (s : State) (k : Source) (a : Ack) :
    (s.addAck k a).hport = s.hport ∧ (s.addAck k a).adm = s.adm ∧ (s.addAck k a).tt = s.tt
      ∧ (s.addAck k a).mb = s.mb ∧ (s.addAck k a).fl = s.fl ∧ (s.addAck k a).es = s.es
      ∧ (s.addAck k a).mport = s.mport ∧ (s.addAck k a).resp.rq = s.resp.rq
      ∧ (s.addAck k a).resp.credits = s.resp.credits ∧ (s.addAck k a).meter = s.meter
      ∧ (s.addAck k a).mgmt = s.mgmt ∧ (s.addAck k a).pending = s.pending ∧ (s.addAck k a).choices = s.choices := by
  unfold State.addAck; (repeat' split) <;> simp
@[simp] theorem State.addAck_hport (s : State) (k : Source) (a : Ack) : (s.addAck k a).hport = s.hport :=
    (s.addAck_frame k a).1
@[simp] theorem State.addAck_adm (s : State) (k : Source) (a : Ack) : (s.addAck k a).adm = s.adm :=
    (s.addAck_frame k a).2.1
@[simp] theorem State.addAck_tt (s : State) (k : Source) (a : Ack) : (s.addAck k a).tt = s.tt :=
    (s.addAck_frame k a).2.2.1
@[simp] theorem State.addAck_mb (s : State) (k : Source) (a : Ack) : (s.addAck k a).mb = s.mb :=
    (s.addAck_frame k a).2.2.2.1
@[simp] theorem State.addAck_fl (s : State) (k : Source) (a : Ack) : (s.addAck k a).fl = s.fl :=
    (s.addAck_frame k a).2.2.2.2.1
@[simp] theorem State.addAck_es (s : State) (k : Source) (a : Ack) : (s.addAck k a).es = s.es :=
    (s.addAck_frame k a).2.2.2.2.2.1
@[simp] theorem State.addAck_mport (s : State) (k : Source) (a : Ack) : (s.addAck k a).mport = s.mport :=
    (s.addAck_frame k a).2.2.2.2.2.2.1
@[simp] theorem State.addAck_resp_rq (s : State) (k : Source) (a : Ack) : (s.addAck k a).resp.rq = s.resp.rq :=
    (s.addAck_frame k a).2.2.2.2.2.2.2.1
@[simp] theorem State.addAck_resp_credits (s : State) (k : Source) (a : Ack) : (s.addAck k a).resp.credits = s.resp.credits :=
    (s.addAck_frame k a).2.2.2.2.2.2.2.2.1
@[simp] theorem State.addAck_meter (s : State) (k : Source) (a : Ack) : (s.addAck k a).meter = s.meter :=
    (s.addAck_frame k a).2.2.2.2.2.2.2.2.2.1
@[simp] theorem State.addAck_mgmt (s : State) (k : Source) (a : Ack) : (s.addAck k a).mgmt = s.mgmt :=
    (s.addAck_frame k a).2.2.2.2.2.2.2.2.2.2.1
@[simp] theorem State.addAck_pending (s : State) (k : Source) (a : Ack) : (s.addAck k a).pending = s.pending :=
    (s.addAck_frame k a).2.2.2.2.2.2.2.2.2.2.2.1
@[simp] theorem State.addAck_choices (s : State) (k : Source) (a : Ack) : (s.addAck k a).choices = s.choices :=
    (s.addAck_frame k a).2.2.2.2.2.2.2.2.2.2.2.2
@[simp] theorem State.addAck_slot (s : State) (k : Source) (a : Ack) (i : SlotId) :
    (s.addAck k a).slot i = s.slot i := State.slot_congr (s.addAck_tt k a) i
@[simp] theorem State.addAck_buffer (s : State) (k : Source) (a : Ack) (b : BufferId) :
    (s.addAck k a).buffer b = s.buffer b := State.buffer_congr (s.addAck_mb k a) b
@[simp] theorem State.addAck_entry (s : State) (k : Source) (a : Ack) (e : EntryId) :
    (s.addAck k a).entry e = s.entry e := State.entry_congr (s.addAck_es k a) e
@[simp] theorem State.addAck_latch (s : State) (k : Source) (a : Ack) (src : Source) :
    (s.addAck k a).latch src = s.latch src := State.latch_congr (s.addAck_fl k a) src
@[simp] theorem State.addAck_flushOrder (s : State) (k : Source) (a : Ack) (src : Source) :
    (s.addAck k a).flushOrder src = s.flushOrder src := State.flushOrder_congr (s.addAck_fl k a) src
@[simp] theorem State.addAck_holdingOf (s : State) (k : Source) (a : Ack) (src : Source) :
    (s.addAck k a).holdingOf src = s.holdingOf src := State.holdingOf_congr (s.addAck_tt k a) src
@[simp] theorem State.addAck_meterOf (s : State) (k : Source) (a : Ack) (src : Source) :
    (s.addAck k a).meterOf src = s.meterOf src := State.meterOf_congr (s.addAck_meter k a) src
@[simp] theorem State.addAck_counter (s : State) (k : Source) (a : Ack) (c : Counter) :
    (s.addAck k a).counter c = s.counter c := State.counter_congr (s.addAck_mgmt k a) c

/-! ### What `State.offerBuffer` leaves -/

theorem State.offerBuffer_frame (s : State) (k : BufferId) :
    (s.offerBuffer k).hport = s.hport ∧ (s.offerBuffer k).adm = s.adm ∧ (s.offerBuffer k).tt = s.tt
      ∧ (s.offerBuffer k).mb.ageOrder = s.mb.ageOrder ∧ (s.offerBuffer k).fl = s.fl
      ∧ (s.offerBuffer k).es = s.es ∧ (s.offerBuffer k).mport.up = s.mport.up
      ∧ (s.offerBuffer k).mport.credits = s.mport.credits
      ∧ (s.offerBuffer k).mport.outstanding = s.mport.outstanding
      ∧ (s.offerBuffer k).mport.orphaned = s.mport.orphaned ∧ (s.offerBuffer k).mport.sent = s.mport.sent
      ∧ (s.offerBuffer k).mport.restarts = s.mport.restarts ∧ (s.offerBuffer k).resp = s.resp
      ∧ (s.offerBuffer k).meter = s.meter ∧ (s.offerBuffer k).mgmt = s.mgmt
      ∧ (s.offerBuffer k).pending = s.pending ∧ (s.offerBuffer k).choices = s.choices := by
  unfold State.offerBuffer; (repeat' split) <;> simp
@[simp] theorem State.offerBuffer_hport (s : State) (k : BufferId) : (s.offerBuffer k).hport = s.hport :=
    (s.offerBuffer_frame k).1
@[simp] theorem State.offerBuffer_adm (s : State) (k : BufferId) : (s.offerBuffer k).adm = s.adm :=
    (s.offerBuffer_frame k).2.1
@[simp] theorem State.offerBuffer_tt (s : State) (k : BufferId) : (s.offerBuffer k).tt = s.tt :=
    (s.offerBuffer_frame k).2.2.1
@[simp] theorem State.offerBuffer_mb_ageOrder (s : State) (k : BufferId) : (s.offerBuffer k).mb.ageOrder = s.mb.ageOrder :=
    (s.offerBuffer_frame k).2.2.2.1
@[simp] theorem State.offerBuffer_fl (s : State) (k : BufferId) : (s.offerBuffer k).fl = s.fl :=
    (s.offerBuffer_frame k).2.2.2.2.1
@[simp] theorem State.offerBuffer_es (s : State) (k : BufferId) : (s.offerBuffer k).es = s.es :=
    (s.offerBuffer_frame k).2.2.2.2.2.1
@[simp] theorem State.offerBuffer_mport_up (s : State) (k : BufferId) : (s.offerBuffer k).mport.up = s.mport.up :=
    (s.offerBuffer_frame k).2.2.2.2.2.2.1
@[simp] theorem State.offerBuffer_mport_credits (s : State) (k : BufferId) : (s.offerBuffer k).mport.credits = s.mport.credits :=
    (s.offerBuffer_frame k).2.2.2.2.2.2.2.1
@[simp] theorem State.offerBuffer_mport_outstanding (s : State) (k : BufferId) : (s.offerBuffer k).mport.outstanding = s.mport.outstanding :=
    (s.offerBuffer_frame k).2.2.2.2.2.2.2.2.1
@[simp] theorem State.offerBuffer_mport_orphaned (s : State) (k : BufferId) : (s.offerBuffer k).mport.orphaned = s.mport.orphaned :=
    (s.offerBuffer_frame k).2.2.2.2.2.2.2.2.2.1
@[simp] theorem State.offerBuffer_mport_sent (s : State) (k : BufferId) : (s.offerBuffer k).mport.sent = s.mport.sent :=
    (s.offerBuffer_frame k).2.2.2.2.2.2.2.2.2.2.1
@[simp] theorem State.offerBuffer_mport_restarts (s : State) (k : BufferId) : (s.offerBuffer k).mport.restarts = s.mport.restarts :=
    (s.offerBuffer_frame k).2.2.2.2.2.2.2.2.2.2.2.1
@[simp] theorem State.offerBuffer_resp (s : State) (k : BufferId) : (s.offerBuffer k).resp = s.resp :=
    (s.offerBuffer_frame k).2.2.2.2.2.2.2.2.2.2.2.2.1
@[simp] theorem State.offerBuffer_meter (s : State) (k : BufferId) : (s.offerBuffer k).meter = s.meter :=
    (s.offerBuffer_frame k).2.2.2.2.2.2.2.2.2.2.2.2.2.1
@[simp] theorem State.offerBuffer_mgmt (s : State) (k : BufferId) : (s.offerBuffer k).mgmt = s.mgmt :=
    (s.offerBuffer_frame k).2.2.2.2.2.2.2.2.2.2.2.2.2.2.1
@[simp] theorem State.offerBuffer_pending (s : State) (k : BufferId) : (s.offerBuffer k).pending = s.pending :=
    (s.offerBuffer_frame k).2.2.2.2.2.2.2.2.2.2.2.2.2.2.2.1
@[simp] theorem State.offerBuffer_choices (s : State) (k : BufferId) : (s.offerBuffer k).choices = s.choices :=
    (s.offerBuffer_frame k).2.2.2.2.2.2.2.2.2.2.2.2.2.2.2.2
@[simp] theorem State.offerBuffer_slot (s : State) (k : BufferId) (i : SlotId) :
    (s.offerBuffer k).slot i = s.slot i := State.slot_congr (s.offerBuffer_tt k) i
@[simp] theorem State.offerBuffer_entry (s : State) (k : BufferId) (e : EntryId) :
    (s.offerBuffer k).entry e = s.entry e := State.entry_congr (s.offerBuffer_es k) e
@[simp] theorem State.offerBuffer_record (s : State) (k : BufferId) (src : Source) :
    (s.offerBuffer k).record src = s.record src := State.record_congr (s.offerBuffer_resp k) src
@[simp] theorem State.offerBuffer_latch (s : State) (k : BufferId) (src : Source) :
    (s.offerBuffer k).latch src = s.latch src := State.latch_congr (s.offerBuffer_fl k) src
@[simp] theorem State.offerBuffer_flushOrder (s : State) (k : BufferId) (src : Source) :
    (s.offerBuffer k).flushOrder src = s.flushOrder src := State.flushOrder_congr (s.offerBuffer_fl k) src
@[simp] theorem State.offerBuffer_holdingOf (s : State) (k : BufferId) (src : Source) :
    (s.offerBuffer k).holdingOf src = s.holdingOf src := State.holdingOf_congr (s.offerBuffer_tt k) src
@[simp] theorem State.offerBuffer_meterOf (s : State) (k : BufferId) (src : Source) :
    (s.offerBuffer k).meterOf src = s.meterOf src := State.meterOf_congr (s.offerBuffer_meter k) src
@[simp] theorem State.offerBuffer_counter (s : State) (k : BufferId) (c : Counter) :
    (s.offerBuffer k).counter c = s.counter c := State.counter_congr (s.offerBuffer_mgmt k) c

/-! ### What `State.offerNext` leaves -/

theorem State.offerNext_frame (s : State) (l : Line) :
    (s.offerNext l).hport = s.hport ∧ (s.offerNext l).adm = s.adm ∧ (s.offerNext l).tt = s.tt
      ∧ (s.offerNext l).mb.ageOrder = s.mb.ageOrder ∧ (s.offerNext l).fl = s.fl ∧ (s.offerNext l).es = s.es
      ∧ (s.offerNext l).mport.up = s.mport.up ∧ (s.offerNext l).mport.credits = s.mport.credits
      ∧ (s.offerNext l).mport.outstanding = s.mport.outstanding
      ∧ (s.offerNext l).mport.orphaned = s.mport.orphaned ∧ (s.offerNext l).mport.sent = s.mport.sent
      ∧ (s.offerNext l).mport.restarts = s.mport.restarts ∧ (s.offerNext l).resp = s.resp
      ∧ (s.offerNext l).meter = s.meter ∧ (s.offerNext l).mgmt = s.mgmt ∧ (s.offerNext l).pending = s.pending
      ∧ (s.offerNext l).choices = s.choices := by
  unfold State.offerNext; (repeat' split) <;> simp
@[simp] theorem State.offerNext_hport (s : State) (l : Line) : (s.offerNext l).hport = s.hport :=
    (s.offerNext_frame l).1
@[simp] theorem State.offerNext_adm (s : State) (l : Line) : (s.offerNext l).adm = s.adm := (s.offerNext_frame l).2.1
@[simp] theorem State.offerNext_tt (s : State) (l : Line) : (s.offerNext l).tt = s.tt := (s.offerNext_frame l).2.2.1
@[simp] theorem State.offerNext_mb_ageOrder (s : State) (l : Line) : (s.offerNext l).mb.ageOrder = s.mb.ageOrder :=
    (s.offerNext_frame l).2.2.2.1
@[simp] theorem State.offerNext_fl (s : State) (l : Line) : (s.offerNext l).fl = s.fl :=
    (s.offerNext_frame l).2.2.2.2.1
@[simp] theorem State.offerNext_es (s : State) (l : Line) : (s.offerNext l).es = s.es :=
    (s.offerNext_frame l).2.2.2.2.2.1
@[simp] theorem State.offerNext_mport_up (s : State) (l : Line) : (s.offerNext l).mport.up = s.mport.up :=
    (s.offerNext_frame l).2.2.2.2.2.2.1
@[simp] theorem State.offerNext_mport_credits (s : State) (l : Line) : (s.offerNext l).mport.credits = s.mport.credits :=
    (s.offerNext_frame l).2.2.2.2.2.2.2.1
@[simp] theorem State.offerNext_mport_outstanding (s : State) (l : Line) : (s.offerNext l).mport.outstanding = s.mport.outstanding :=
    (s.offerNext_frame l).2.2.2.2.2.2.2.2.1
@[simp] theorem State.offerNext_mport_orphaned (s : State) (l : Line) : (s.offerNext l).mport.orphaned = s.mport.orphaned :=
    (s.offerNext_frame l).2.2.2.2.2.2.2.2.2.1
@[simp] theorem State.offerNext_mport_sent (s : State) (l : Line) : (s.offerNext l).mport.sent = s.mport.sent :=
    (s.offerNext_frame l).2.2.2.2.2.2.2.2.2.2.1
@[simp] theorem State.offerNext_mport_restarts (s : State) (l : Line) : (s.offerNext l).mport.restarts = s.mport.restarts :=
    (s.offerNext_frame l).2.2.2.2.2.2.2.2.2.2.2.1
@[simp] theorem State.offerNext_resp (s : State) (l : Line) : (s.offerNext l).resp = s.resp :=
    (s.offerNext_frame l).2.2.2.2.2.2.2.2.2.2.2.2.1
@[simp] theorem State.offerNext_meter (s : State) (l : Line) : (s.offerNext l).meter = s.meter :=
    (s.offerNext_frame l).2.2.2.2.2.2.2.2.2.2.2.2.2.1
@[simp] theorem State.offerNext_mgmt (s : State) (l : Line) : (s.offerNext l).mgmt = s.mgmt :=
    (s.offerNext_frame l).2.2.2.2.2.2.2.2.2.2.2.2.2.2.1
@[simp] theorem State.offerNext_pending (s : State) (l : Line) : (s.offerNext l).pending = s.pending :=
    (s.offerNext_frame l).2.2.2.2.2.2.2.2.2.2.2.2.2.2.2.1
@[simp] theorem State.offerNext_choices (s : State) (l : Line) : (s.offerNext l).choices = s.choices :=
    (s.offerNext_frame l).2.2.2.2.2.2.2.2.2.2.2.2.2.2.2.2
@[simp] theorem State.offerNext_slot (s : State) (l : Line) (i : SlotId) :
    (s.offerNext l).slot i = s.slot i := State.slot_congr (s.offerNext_tt l) i
@[simp] theorem State.offerNext_entry (s : State) (l : Line) (e : EntryId) :
    (s.offerNext l).entry e = s.entry e := State.entry_congr (s.offerNext_es l) e
@[simp] theorem State.offerNext_record (s : State) (l : Line) (src : Source) :
    (s.offerNext l).record src = s.record src := State.record_congr (s.offerNext_resp l) src
@[simp] theorem State.offerNext_latch (s : State) (l : Line) (src : Source) :
    (s.offerNext l).latch src = s.latch src := State.latch_congr (s.offerNext_fl l) src
@[simp] theorem State.offerNext_flushOrder (s : State) (l : Line) (src : Source) :
    (s.offerNext l).flushOrder src = s.flushOrder src := State.flushOrder_congr (s.offerNext_fl l) src
@[simp] theorem State.offerNext_holdingOf (s : State) (l : Line) (src : Source) :
    (s.offerNext l).holdingOf src = s.holdingOf src := State.holdingOf_congr (s.offerNext_tt l) src
@[simp] theorem State.offerNext_meterOf (s : State) (l : Line) (src : Source) :
    (s.offerNext l).meterOf src = s.meterOf src := State.meterOf_congr (s.offerNext_meter l) src
@[simp] theorem State.offerNext_counter (s : State) (l : Line) (c : Counter) :
    (s.offerNext l).counter c = s.counter c := State.counter_congr (s.offerNext_mgmt l) c

/-! ### What `State.sealBuffer` leaves -/

theorem State.sealBuffer_frame (s : State) (k : BufferId) (x : SealCause) :
    (s.sealBuffer k x).hport = s.hport ∧ (s.sealBuffer k x).adm = s.adm ∧ (s.sealBuffer k x).tt = s.tt
      ∧ (s.sealBuffer k x).mb.ageOrder = s.mb.ageOrder ∧ (s.sealBuffer k x).fl = s.fl
      ∧ (s.sealBuffer k x).es = s.es ∧ (s.sealBuffer k x).mport.up = s.mport.up
      ∧ (s.sealBuffer k x).mport.credits = s.mport.credits
      ∧ (s.sealBuffer k x).mport.outstanding = s.mport.outstanding
      ∧ (s.sealBuffer k x).mport.orphaned = s.mport.orphaned ∧ (s.sealBuffer k x).mport.sent = s.mport.sent
      ∧ (s.sealBuffer k x).mport.restarts = s.mport.restarts ∧ (s.sealBuffer k x).resp = s.resp
      ∧ (s.sealBuffer k x).meter = s.meter ∧ (s.sealBuffer k x).mgmt.regs = s.mgmt.regs
      ∧ (s.sealBuffer k x).mgmt.quiesce = s.mgmt.quiesce
      ∧ (s.sealBuffer k x).mgmt.quietStatus = s.mgmt.quietStatus
      ∧ (s.sealBuffer k x).mgmt.notices = s.mgmt.notices ∧ (s.sealBuffer k x).mgmt.lost = s.mgmt.lost
      ∧ (s.sealBuffer k x).mgmt.time = s.mgmt.time ∧ (s.sealBuffer k x).mgmt.subTime = s.mgmt.subTime
      ∧ (s.sealBuffer k x).mgmt.irqLine = s.mgmt.irqLine ∧ (s.sealBuffer k x).mgmt.readData = s.mgmt.readData
      ∧ (s.sealBuffer k x).pending = s.pending ∧ (s.sealBuffer k x).choices = s.choices := by
  unfold State.sealBuffer; (repeat' split) <;> simp
@[simp] theorem State.sealBuffer_hport (s : State) (k : BufferId) (x : SealCause) : (s.sealBuffer k x).hport = s.hport :=
    (s.sealBuffer_frame k x).1
@[simp] theorem State.sealBuffer_adm (s : State) (k : BufferId) (x : SealCause) : (s.sealBuffer k x).adm = s.adm :=
    (s.sealBuffer_frame k x).2.1
@[simp] theorem State.sealBuffer_tt (s : State) (k : BufferId) (x : SealCause) : (s.sealBuffer k x).tt = s.tt :=
    (s.sealBuffer_frame k x).2.2.1
@[simp] theorem State.sealBuffer_mb_ageOrder (s : State) (k : BufferId) (x : SealCause) : (s.sealBuffer k x).mb.ageOrder = s.mb.ageOrder :=
    (s.sealBuffer_frame k x).2.2.2.1
@[simp] theorem State.sealBuffer_fl (s : State) (k : BufferId) (x : SealCause) : (s.sealBuffer k x).fl = s.fl :=
    (s.sealBuffer_frame k x).2.2.2.2.1
@[simp] theorem State.sealBuffer_es (s : State) (k : BufferId) (x : SealCause) : (s.sealBuffer k x).es = s.es :=
    (s.sealBuffer_frame k x).2.2.2.2.2.1
@[simp] theorem State.sealBuffer_mport_up (s : State) (k : BufferId) (x : SealCause) : (s.sealBuffer k x).mport.up = s.mport.up :=
    (s.sealBuffer_frame k x).2.2.2.2.2.2.1
@[simp] theorem State.sealBuffer_mport_credits (s : State) (k : BufferId) (x : SealCause) : (s.sealBuffer k x).mport.credits = s.mport.credits :=
    (s.sealBuffer_frame k x).2.2.2.2.2.2.2.1
@[simp] theorem State.sealBuffer_mport_outstanding (s : State) (k : BufferId) (x : SealCause) : (s.sealBuffer k x).mport.outstanding = s.mport.outstanding :=
    (s.sealBuffer_frame k x).2.2.2.2.2.2.2.2.1
@[simp] theorem State.sealBuffer_mport_orphaned (s : State) (k : BufferId) (x : SealCause) : (s.sealBuffer k x).mport.orphaned = s.mport.orphaned :=
    (s.sealBuffer_frame k x).2.2.2.2.2.2.2.2.2.1
@[simp] theorem State.sealBuffer_mport_sent (s : State) (k : BufferId) (x : SealCause) : (s.sealBuffer k x).mport.sent = s.mport.sent :=
    (s.sealBuffer_frame k x).2.2.2.2.2.2.2.2.2.2.1
@[simp] theorem State.sealBuffer_mport_restarts (s : State) (k : BufferId) (x : SealCause) : (s.sealBuffer k x).mport.restarts = s.mport.restarts :=
    (s.sealBuffer_frame k x).2.2.2.2.2.2.2.2.2.2.2.1
@[simp] theorem State.sealBuffer_resp (s : State) (k : BufferId) (x : SealCause) : (s.sealBuffer k x).resp = s.resp :=
    (s.sealBuffer_frame k x).2.2.2.2.2.2.2.2.2.2.2.2.1
@[simp] theorem State.sealBuffer_meter (s : State) (k : BufferId) (x : SealCause) : (s.sealBuffer k x).meter = s.meter :=
    (s.sealBuffer_frame k x).2.2.2.2.2.2.2.2.2.2.2.2.2.1
@[simp] theorem State.sealBuffer_mgmt_regs (s : State) (k : BufferId) (x : SealCause) : (s.sealBuffer k x).mgmt.regs = s.mgmt.regs :=
    (s.sealBuffer_frame k x).2.2.2.2.2.2.2.2.2.2.2.2.2.2.1
@[simp] theorem State.sealBuffer_mgmt_quiesce (s : State) (k : BufferId) (x : SealCause) : (s.sealBuffer k x).mgmt.quiesce = s.mgmt.quiesce :=
    (s.sealBuffer_frame k x).2.2.2.2.2.2.2.2.2.2.2.2.2.2.2.1
@[simp] theorem State.sealBuffer_mgmt_quietStatus (s : State) (k : BufferId) (x : SealCause) : (s.sealBuffer k x).mgmt.quietStatus = s.mgmt.quietStatus :=
    (s.sealBuffer_frame k x).2.2.2.2.2.2.2.2.2.2.2.2.2.2.2.2.1
@[simp] theorem State.sealBuffer_mgmt_notices (s : State) (k : BufferId) (x : SealCause) : (s.sealBuffer k x).mgmt.notices = s.mgmt.notices :=
    (s.sealBuffer_frame k x).2.2.2.2.2.2.2.2.2.2.2.2.2.2.2.2.2.1
@[simp] theorem State.sealBuffer_mgmt_lost (s : State) (k : BufferId) (x : SealCause) : (s.sealBuffer k x).mgmt.lost = s.mgmt.lost :=
    (s.sealBuffer_frame k x).2.2.2.2.2.2.2.2.2.2.2.2.2.2.2.2.2.2.1
@[simp] theorem State.sealBuffer_mgmt_time (s : State) (k : BufferId) (x : SealCause) : (s.sealBuffer k x).mgmt.time = s.mgmt.time :=
    (s.sealBuffer_frame k x).2.2.2.2.2.2.2.2.2.2.2.2.2.2.2.2.2.2.2.1
@[simp] theorem State.sealBuffer_mgmt_subTime (s : State) (k : BufferId) (x : SealCause) : (s.sealBuffer k x).mgmt.subTime = s.mgmt.subTime :=
    (s.sealBuffer_frame k x).2.2.2.2.2.2.2.2.2.2.2.2.2.2.2.2.2.2.2.2.1
@[simp] theorem State.sealBuffer_mgmt_irqLine (s : State) (k : BufferId) (x : SealCause) : (s.sealBuffer k x).mgmt.irqLine = s.mgmt.irqLine :=
    (s.sealBuffer_frame k x).2.2.2.2.2.2.2.2.2.2.2.2.2.2.2.2.2.2.2.2.2.1
@[simp] theorem State.sealBuffer_mgmt_readData (s : State) (k : BufferId) (x : SealCause) : (s.sealBuffer k x).mgmt.readData = s.mgmt.readData :=
    (s.sealBuffer_frame k x).2.2.2.2.2.2.2.2.2.2.2.2.2.2.2.2.2.2.2.2.2.2.1
@[simp] theorem State.sealBuffer_pending (s : State) (k : BufferId) (x : SealCause) : (s.sealBuffer k x).pending = s.pending :=
    (s.sealBuffer_frame k x).2.2.2.2.2.2.2.2.2.2.2.2.2.2.2.2.2.2.2.2.2.2.2.1
@[simp] theorem State.sealBuffer_choices (s : State) (k : BufferId) (x : SealCause) : (s.sealBuffer k x).choices = s.choices :=
    (s.sealBuffer_frame k x).2.2.2.2.2.2.2.2.2.2.2.2.2.2.2.2.2.2.2.2.2.2.2.2
@[simp] theorem State.sealBuffer_slot (s : State) (k : BufferId) (x : SealCause) (i : SlotId) :
    (s.sealBuffer k x).slot i = s.slot i := State.slot_congr (s.sealBuffer_tt k x) i
@[simp] theorem State.sealBuffer_entry (s : State) (k : BufferId) (x : SealCause) (e : EntryId) :
    (s.sealBuffer k x).entry e = s.entry e := State.entry_congr (s.sealBuffer_es k x) e
@[simp] theorem State.sealBuffer_record (s : State) (k : BufferId) (x : SealCause) (src : Source) :
    (s.sealBuffer k x).record src = s.record src := State.record_congr (s.sealBuffer_resp k x) src
@[simp] theorem State.sealBuffer_latch (s : State) (k : BufferId) (x : SealCause) (src : Source) :
    (s.sealBuffer k x).latch src = s.latch src := State.latch_congr (s.sealBuffer_fl k x) src
@[simp] theorem State.sealBuffer_flushOrder (s : State) (k : BufferId) (x : SealCause) (src : Source) :
    (s.sealBuffer k x).flushOrder src = s.flushOrder src := State.flushOrder_congr (s.sealBuffer_fl k x) src
@[simp] theorem State.sealBuffer_holdingOf (s : State) (k : BufferId) (x : SealCause) (src : Source) :
    (s.sealBuffer k x).holdingOf src = s.holdingOf src := State.holdingOf_congr (s.sealBuffer_tt k x) src
@[simp] theorem State.sealBuffer_meterOf (s : State) (k : BufferId) (x : SealCause) (src : Source) :
    (s.sealBuffer k x).meterOf src = s.meterOf src := State.meterOf_congr (s.sealBuffer_meter k x) src

/-! ### What `State.sealBuffers` leaves -/

theorem State.sealBuffers_frame (s : State) (l : List BufferId) (x : SealCause) :
    (s.sealBuffers l x).hport = s.hport ∧ (s.sealBuffers l x).adm = s.adm ∧ (s.sealBuffers l x).tt = s.tt
      ∧ (s.sealBuffers l x).mb.ageOrder = s.mb.ageOrder ∧ (s.sealBuffers l x).fl = s.fl
      ∧ (s.sealBuffers l x).es = s.es ∧ (s.sealBuffers l x).mport.up = s.mport.up
      ∧ (s.sealBuffers l x).mport.credits = s.mport.credits
      ∧ (s.sealBuffers l x).mport.outstanding = s.mport.outstanding
      ∧ (s.sealBuffers l x).mport.orphaned = s.mport.orphaned ∧ (s.sealBuffers l x).mport.sent = s.mport.sent
      ∧ (s.sealBuffers l x).mport.restarts = s.mport.restarts ∧ (s.sealBuffers l x).resp = s.resp
      ∧ (s.sealBuffers l x).meter = s.meter ∧ (s.sealBuffers l x).mgmt.regs = s.mgmt.regs
      ∧ (s.sealBuffers l x).mgmt.quiesce = s.mgmt.quiesce
      ∧ (s.sealBuffers l x).mgmt.quietStatus = s.mgmt.quietStatus
      ∧ (s.sealBuffers l x).mgmt.notices = s.mgmt.notices ∧ (s.sealBuffers l x).mgmt.lost = s.mgmt.lost
      ∧ (s.sealBuffers l x).mgmt.time = s.mgmt.time ∧ (s.sealBuffers l x).mgmt.subTime = s.mgmt.subTime
      ∧ (s.sealBuffers l x).mgmt.irqLine = s.mgmt.irqLine ∧ (s.sealBuffers l x).mgmt.readData = s.mgmt.readData
      ∧ (s.sealBuffers l x).pending = s.pending ∧ (s.sealBuffers l x).choices = s.choices := by
  unfold State.sealBuffers
  exact ⟨foldl_keeps (fun t : State => t.hport) _ (by intro t x; simp) _ _,
    foldl_keeps (fun t : State => t.adm) _ (by intro t x; simp) _ _,
    foldl_keeps (fun t : State => t.tt) _ (by intro t x; simp) _ _,
    foldl_keeps (fun t : State => t.mb.ageOrder) _ (by intro t x; simp) _ _,
    foldl_keeps (fun t : State => t.fl) _ (by intro t x; simp) _ _,
    foldl_keeps (fun t : State => t.es) _ (by intro t x; simp) _ _,
    foldl_keeps (fun t : State => t.mport.up) _ (by intro t x; simp) _ _,
    foldl_keeps (fun t : State => t.mport.credits) _ (by intro t x; simp) _ _,
    foldl_keeps (fun t : State => t.mport.outstanding) _ (by intro t x; simp) _ _,
    foldl_keeps (fun t : State => t.mport.orphaned) _ (by intro t x; simp) _ _,
    foldl_keeps (fun t : State => t.mport.sent) _ (by intro t x; simp) _ _,
    foldl_keeps (fun t : State => t.mport.restarts) _ (by intro t x; simp) _ _,
    foldl_keeps (fun t : State => t.resp) _ (by intro t x; simp) _ _,
    foldl_keeps (fun t : State => t.meter) _ (by intro t x; simp) _ _,
    foldl_keeps (fun t : State => t.mgmt.regs) _ (by intro t x; simp) _ _,
    foldl_keeps (fun t : State => t.mgmt.quiesce) _ (by intro t x; simp) _ _,
    foldl_keeps (fun t : State => t.mgmt.quietStatus) _ (by intro t x; simp) _ _,
    foldl_keeps (fun t : State => t.mgmt.notices) _ (by intro t x; simp) _ _,
    foldl_keeps (fun t : State => t.mgmt.lost) _ (by intro t x; simp) _ _,
    foldl_keeps (fun t : State => t.mgmt.time) _ (by intro t x; simp) _ _,
    foldl_keeps (fun t : State => t.mgmt.subTime) _ (by intro t x; simp) _ _,
    foldl_keeps (fun t : State => t.mgmt.irqLine) _ (by intro t x; simp) _ _,
    foldl_keeps (fun t : State => t.mgmt.readData) _ (by intro t x; simp) _ _,
    foldl_keeps (fun t : State => t.pending) _ (by intro t x; simp) _ _,
    foldl_keeps (fun t : State => t.choices) _ (by intro t x; simp) _ _⟩
@[simp] theorem State.sealBuffers_hport (s : State) (l : List BufferId) (x : SealCause) : (s.sealBuffers l x).hport = s.hport :=
    (s.sealBuffers_frame l x).1
@[simp] theorem State.sealBuffers_adm (s : State) (l : List BufferId) (x : SealCause) : (s.sealBuffers l x).adm = s.adm :=
    (s.sealBuffers_frame l x).2.1
@[simp] theorem State.sealBuffers_tt (s : State) (l : List BufferId) (x : SealCause) : (s.sealBuffers l x).tt = s.tt :=
    (s.sealBuffers_frame l x).2.2.1
@[simp] theorem State.sealBuffers_mb_ageOrder (s : State) (l : List BufferId) (x : SealCause) : (s.sealBuffers l x).mb.ageOrder = s.mb.ageOrder :=
    (s.sealBuffers_frame l x).2.2.2.1
@[simp] theorem State.sealBuffers_fl (s : State) (l : List BufferId) (x : SealCause) : (s.sealBuffers l x).fl = s.fl :=
    (s.sealBuffers_frame l x).2.2.2.2.1
@[simp] theorem State.sealBuffers_es (s : State) (l : List BufferId) (x : SealCause) : (s.sealBuffers l x).es = s.es :=
    (s.sealBuffers_frame l x).2.2.2.2.2.1
@[simp] theorem State.sealBuffers_mport_up (s : State) (l : List BufferId) (x : SealCause) : (s.sealBuffers l x).mport.up = s.mport.up :=
    (s.sealBuffers_frame l x).2.2.2.2.2.2.1
@[simp] theorem State.sealBuffers_mport_credits (s : State) (l : List BufferId) (x : SealCause) : (s.sealBuffers l x).mport.credits = s.mport.credits :=
    (s.sealBuffers_frame l x).2.2.2.2.2.2.2.1
@[simp] theorem State.sealBuffers_mport_outstanding (s : State) (l : List BufferId) (x : SealCause) : (s.sealBuffers l x).mport.outstanding = s.mport.outstanding :=
    (s.sealBuffers_frame l x).2.2.2.2.2.2.2.2.1
@[simp] theorem State.sealBuffers_mport_orphaned (s : State) (l : List BufferId) (x : SealCause) : (s.sealBuffers l x).mport.orphaned = s.mport.orphaned :=
    (s.sealBuffers_frame l x).2.2.2.2.2.2.2.2.2.1
@[simp] theorem State.sealBuffers_mport_sent (s : State) (l : List BufferId) (x : SealCause) : (s.sealBuffers l x).mport.sent = s.mport.sent :=
    (s.sealBuffers_frame l x).2.2.2.2.2.2.2.2.2.2.1
@[simp] theorem State.sealBuffers_mport_restarts (s : State) (l : List BufferId) (x : SealCause) : (s.sealBuffers l x).mport.restarts = s.mport.restarts :=
    (s.sealBuffers_frame l x).2.2.2.2.2.2.2.2.2.2.2.1
@[simp] theorem State.sealBuffers_resp (s : State) (l : List BufferId) (x : SealCause) : (s.sealBuffers l x).resp = s.resp :=
    (s.sealBuffers_frame l x).2.2.2.2.2.2.2.2.2.2.2.2.1
@[simp] theorem State.sealBuffers_meter (s : State) (l : List BufferId) (x : SealCause) : (s.sealBuffers l x).meter = s.meter :=
    (s.sealBuffers_frame l x).2.2.2.2.2.2.2.2.2.2.2.2.2.1
@[simp] theorem State.sealBuffers_mgmt_regs (s : State) (l : List BufferId) (x : SealCause) : (s.sealBuffers l x).mgmt.regs = s.mgmt.regs :=
    (s.sealBuffers_frame l x).2.2.2.2.2.2.2.2.2.2.2.2.2.2.1
@[simp] theorem State.sealBuffers_mgmt_quiesce (s : State) (l : List BufferId) (x : SealCause) : (s.sealBuffers l x).mgmt.quiesce = s.mgmt.quiesce :=
    (s.sealBuffers_frame l x).2.2.2.2.2.2.2.2.2.2.2.2.2.2.2.1
@[simp] theorem State.sealBuffers_mgmt_quietStatus (s : State) (l : List BufferId) (x : SealCause) : (s.sealBuffers l x).mgmt.quietStatus = s.mgmt.quietStatus :=
    (s.sealBuffers_frame l x).2.2.2.2.2.2.2.2.2.2.2.2.2.2.2.2.1
@[simp] theorem State.sealBuffers_mgmt_notices (s : State) (l : List BufferId) (x : SealCause) : (s.sealBuffers l x).mgmt.notices = s.mgmt.notices :=
    (s.sealBuffers_frame l x).2.2.2.2.2.2.2.2.2.2.2.2.2.2.2.2.2.1
@[simp] theorem State.sealBuffers_mgmt_lost (s : State) (l : List BufferId) (x : SealCause) : (s.sealBuffers l x).mgmt.lost = s.mgmt.lost :=
    (s.sealBuffers_frame l x).2.2.2.2.2.2.2.2.2.2.2.2.2.2.2.2.2.2.1
@[simp] theorem State.sealBuffers_mgmt_time (s : State) (l : List BufferId) (x : SealCause) : (s.sealBuffers l x).mgmt.time = s.mgmt.time :=
    (s.sealBuffers_frame l x).2.2.2.2.2.2.2.2.2.2.2.2.2.2.2.2.2.2.2.1
@[simp] theorem State.sealBuffers_mgmt_subTime (s : State) (l : List BufferId) (x : SealCause) : (s.sealBuffers l x).mgmt.subTime = s.mgmt.subTime :=
    (s.sealBuffers_frame l x).2.2.2.2.2.2.2.2.2.2.2.2.2.2.2.2.2.2.2.2.1
@[simp] theorem State.sealBuffers_mgmt_irqLine (s : State) (l : List BufferId) (x : SealCause) : (s.sealBuffers l x).mgmt.irqLine = s.mgmt.irqLine :=
    (s.sealBuffers_frame l x).2.2.2.2.2.2.2.2.2.2.2.2.2.2.2.2.2.2.2.2.2.1
@[simp] theorem State.sealBuffers_mgmt_readData (s : State) (l : List BufferId) (x : SealCause) : (s.sealBuffers l x).mgmt.readData = s.mgmt.readData :=
    (s.sealBuffers_frame l x).2.2.2.2.2.2.2.2.2.2.2.2.2.2.2.2.2.2.2.2.2.2.1
@[simp] theorem State.sealBuffers_pending (s : State) (l : List BufferId) (x : SealCause) : (s.sealBuffers l x).pending = s.pending :=
    (s.sealBuffers_frame l x).2.2.2.2.2.2.2.2.2.2.2.2.2.2.2.2.2.2.2.2.2.2.2.1
@[simp] theorem State.sealBuffers_choices (s : State) (l : List BufferId) (x : SealCause) : (s.sealBuffers l x).choices = s.choices :=
    (s.sealBuffers_frame l x).2.2.2.2.2.2.2.2.2.2.2.2.2.2.2.2.2.2.2.2.2.2.2.2
@[simp] theorem State.sealBuffers_slot (s : State) (l : List BufferId) (x : SealCause) (i : SlotId) :
    (s.sealBuffers l x).slot i = s.slot i := State.slot_congr (s.sealBuffers_tt l x) i
@[simp] theorem State.sealBuffers_entry (s : State) (l : List BufferId) (x : SealCause) (e : EntryId) :
    (s.sealBuffers l x).entry e = s.entry e := State.entry_congr (s.sealBuffers_es l x) e
@[simp] theorem State.sealBuffers_record (s : State) (l : List BufferId) (x : SealCause) (src : Source) :
    (s.sealBuffers l x).record src = s.record src := State.record_congr (s.sealBuffers_resp l x) src
@[simp] theorem State.sealBuffers_latch (s : State) (l : List BufferId) (x : SealCause) (src : Source) :
    (s.sealBuffers l x).latch src = s.latch src := State.latch_congr (s.sealBuffers_fl l x) src
@[simp] theorem State.sealBuffers_flushOrder (s : State) (l : List BufferId) (x : SealCause) (src : Source) :
    (s.sealBuffers l x).flushOrder src = s.flushOrder src := State.flushOrder_congr (s.sealBuffers_fl l x) src
@[simp] theorem State.sealBuffers_holdingOf (s : State) (l : List BufferId) (x : SealCause) (src : Source) :
    (s.sealBuffers l x).holdingOf src = s.holdingOf src := State.holdingOf_congr (s.sealBuffers_tt l x) src
@[simp] theorem State.sealBuffers_meterOf (s : State) (l : List BufferId) (x : SealCause) (src : Source) :
    (s.sealBuffers l x).meterOf src = s.meterOf src := State.meterOf_congr (s.sealBuffers_meter l x) src

/-! ### What `State.pressureRequest` leaves -/

theorem State.pressureRequest_frame (s : State) :
    s.pressureRequest.hport = s.hport ∧ s.pressureRequest.adm = s.adm ∧ s.pressureRequest.tt = s.tt
      ∧ s.pressureRequest.mb.ageOrder = s.mb.ageOrder ∧ s.pressureRequest.fl = s.fl
      ∧ s.pressureRequest.es = s.es ∧ s.pressureRequest.mport.up = s.mport.up
      ∧ s.pressureRequest.mport.credits = s.mport.credits
      ∧ s.pressureRequest.mport.outstanding = s.mport.outstanding
      ∧ s.pressureRequest.mport.orphaned = s.mport.orphaned ∧ s.pressureRequest.mport.sent = s.mport.sent
      ∧ s.pressureRequest.mport.restarts = s.mport.restarts ∧ s.pressureRequest.resp = s.resp
      ∧ s.pressureRequest.meter = s.meter ∧ s.pressureRequest.mgmt.regs = s.mgmt.regs
      ∧ s.pressureRequest.mgmt.quiesce = s.mgmt.quiesce
      ∧ s.pressureRequest.mgmt.quietStatus = s.mgmt.quietStatus
      ∧ s.pressureRequest.mgmt.notices = s.mgmt.notices ∧ s.pressureRequest.mgmt.lost = s.mgmt.lost
      ∧ s.pressureRequest.mgmt.time = s.mgmt.time ∧ s.pressureRequest.mgmt.subTime = s.mgmt.subTime
      ∧ s.pressureRequest.mgmt.irqLine = s.mgmt.irqLine ∧ s.pressureRequest.mgmt.readData = s.mgmt.readData
      ∧ s.pressureRequest.pending = s.pending ∧ s.pressureRequest.choices = s.choices := by
  unfold State.pressureRequest; (repeat' split) <;> simp
@[simp] theorem State.pressureRequest_hport (s : State) : s.pressureRequest.hport = s.hport :=
    s.pressureRequest_frame.1
@[simp] theorem State.pressureRequest_adm (s : State) : s.pressureRequest.adm = s.adm := s.pressureRequest_frame.2.1
@[simp] theorem State.pressureRequest_tt (s : State) : s.pressureRequest.tt = s.tt := s.pressureRequest_frame.2.2.1
@[simp] theorem State.pressureRequest_mb_ageOrder (s : State) : s.pressureRequest.mb.ageOrder = s.mb.ageOrder :=
    s.pressureRequest_frame.2.2.2.1
@[simp] theorem State.pressureRequest_fl (s : State) : s.pressureRequest.fl = s.fl := s.pressureRequest_frame.2.2.2.2.1
@[simp] theorem State.pressureRequest_es (s : State) : s.pressureRequest.es = s.es :=
    s.pressureRequest_frame.2.2.2.2.2.1
@[simp] theorem State.pressureRequest_mport_up (s : State) : s.pressureRequest.mport.up = s.mport.up :=
    s.pressureRequest_frame.2.2.2.2.2.2.1
@[simp] theorem State.pressureRequest_mport_credits (s : State) : s.pressureRequest.mport.credits = s.mport.credits :=
    s.pressureRequest_frame.2.2.2.2.2.2.2.1
@[simp] theorem State.pressureRequest_mport_outstanding (s : State) : s.pressureRequest.mport.outstanding = s.mport.outstanding :=
    s.pressureRequest_frame.2.2.2.2.2.2.2.2.1
@[simp] theorem State.pressureRequest_mport_orphaned (s : State) : s.pressureRequest.mport.orphaned = s.mport.orphaned :=
    s.pressureRequest_frame.2.2.2.2.2.2.2.2.2.1
@[simp] theorem State.pressureRequest_mport_sent (s : State) : s.pressureRequest.mport.sent = s.mport.sent :=
    s.pressureRequest_frame.2.2.2.2.2.2.2.2.2.2.1
@[simp] theorem State.pressureRequest_mport_restarts (s : State) : s.pressureRequest.mport.restarts = s.mport.restarts :=
    s.pressureRequest_frame.2.2.2.2.2.2.2.2.2.2.2.1
@[simp] theorem State.pressureRequest_resp (s : State) : s.pressureRequest.resp = s.resp :=
    s.pressureRequest_frame.2.2.2.2.2.2.2.2.2.2.2.2.1
@[simp] theorem State.pressureRequest_meter (s : State) : s.pressureRequest.meter = s.meter :=
    s.pressureRequest_frame.2.2.2.2.2.2.2.2.2.2.2.2.2.1
@[simp] theorem State.pressureRequest_mgmt_regs (s : State) : s.pressureRequest.mgmt.regs = s.mgmt.regs :=
    s.pressureRequest_frame.2.2.2.2.2.2.2.2.2.2.2.2.2.2.1
@[simp] theorem State.pressureRequest_mgmt_quiesce (s : State) : s.pressureRequest.mgmt.quiesce = s.mgmt.quiesce :=
    s.pressureRequest_frame.2.2.2.2.2.2.2.2.2.2.2.2.2.2.2.1
@[simp] theorem State.pressureRequest_mgmt_quietStatus (s : State) : s.pressureRequest.mgmt.quietStatus = s.mgmt.quietStatus :=
    s.pressureRequest_frame.2.2.2.2.2.2.2.2.2.2.2.2.2.2.2.2.1
@[simp] theorem State.pressureRequest_mgmt_notices (s : State) : s.pressureRequest.mgmt.notices = s.mgmt.notices :=
    s.pressureRequest_frame.2.2.2.2.2.2.2.2.2.2.2.2.2.2.2.2.2.1
@[simp] theorem State.pressureRequest_mgmt_lost (s : State) : s.pressureRequest.mgmt.lost = s.mgmt.lost :=
    s.pressureRequest_frame.2.2.2.2.2.2.2.2.2.2.2.2.2.2.2.2.2.2.1
@[simp] theorem State.pressureRequest_mgmt_time (s : State) : s.pressureRequest.mgmt.time = s.mgmt.time :=
    s.pressureRequest_frame.2.2.2.2.2.2.2.2.2.2.2.2.2.2.2.2.2.2.2.1
@[simp] theorem State.pressureRequest_mgmt_subTime (s : State) : s.pressureRequest.mgmt.subTime = s.mgmt.subTime :=
    s.pressureRequest_frame.2.2.2.2.2.2.2.2.2.2.2.2.2.2.2.2.2.2.2.2.1
@[simp] theorem State.pressureRequest_mgmt_irqLine (s : State) : s.pressureRequest.mgmt.irqLine = s.mgmt.irqLine :=
    s.pressureRequest_frame.2.2.2.2.2.2.2.2.2.2.2.2.2.2.2.2.2.2.2.2.2.1
@[simp] theorem State.pressureRequest_mgmt_readData (s : State) : s.pressureRequest.mgmt.readData = s.mgmt.readData :=
    s.pressureRequest_frame.2.2.2.2.2.2.2.2.2.2.2.2.2.2.2.2.2.2.2.2.2.2.1
@[simp] theorem State.pressureRequest_pending (s : State) : s.pressureRequest.pending = s.pending :=
    s.pressureRequest_frame.2.2.2.2.2.2.2.2.2.2.2.2.2.2.2.2.2.2.2.2.2.2.2.1
@[simp] theorem State.pressureRequest_choices (s : State) : s.pressureRequest.choices = s.choices :=
    s.pressureRequest_frame.2.2.2.2.2.2.2.2.2.2.2.2.2.2.2.2.2.2.2.2.2.2.2.2
@[simp] theorem State.pressureRequest_slot (s : State) (i : SlotId) :
    s.pressureRequest.slot i = s.slot i := State.slot_congr (s.pressureRequest_tt ) i
@[simp] theorem State.pressureRequest_entry (s : State) (e : EntryId) :
    s.pressureRequest.entry e = s.entry e := State.entry_congr (s.pressureRequest_es ) e
@[simp] theorem State.pressureRequest_record (s : State) (src : Source) :
    s.pressureRequest.record src = s.record src := State.record_congr (s.pressureRequest_resp ) src
@[simp] theorem State.pressureRequest_latch (s : State) (src : Source) :
    s.pressureRequest.latch src = s.latch src := State.latch_congr (s.pressureRequest_fl ) src
@[simp] theorem State.pressureRequest_flushOrder (s : State) (src : Source) :
    s.pressureRequest.flushOrder src = s.flushOrder src := State.flushOrder_congr (s.pressureRequest_fl ) src
@[simp] theorem State.pressureRequest_holdingOf (s : State) (src : Source) :
    s.pressureRequest.holdingOf src = s.holdingOf src := State.holdingOf_congr (s.pressureRequest_tt ) src
@[simp] theorem State.pressureRequest_meterOf (s : State) (src : Source) :
    s.pressureRequest.meterOf src = s.meterOf src := State.meterOf_congr (s.pressureRequest_meter ) src

/-! ### What `State.completeFlush` leaves -/

theorem State.completeFlush_frame (s : State) (k : SlotId) (p : Source) (t : Tag) :
    (s.completeFlush k p t).hport = s.hport ∧ (s.completeFlush k p t).adm = s.adm
      ∧ (s.completeFlush k p t).tt.tagMap = s.tt.tagMap ∧ (s.completeFlush k p t).mb = s.mb
      ∧ (s.completeFlush k p t).es = s.es ∧ (s.completeFlush k p t).mport.up = s.mport.up
      ∧ (s.completeFlush k p t).mport.credits = s.mport.credits ∧ (s.completeFlush k p t).mport.iq = s.mport.iq
      ∧ (s.completeFlush k p t).mport.sent = s.mport.sent
      ∧ (s.completeFlush k p t).mport.restarts = s.mport.restarts ∧ (s.completeFlush k p t).resp.rq = s.resp.rq
      ∧ (s.completeFlush k p t).resp.credits = s.resp.credits ∧ (s.completeFlush k p t).meter = s.meter
      ∧ (s.completeFlush k p t).mgmt = s.mgmt ∧ (s.completeFlush k p t).pending = s.pending
      ∧ (s.completeFlush k p t).choices = s.choices := by
  simp [State.completeFlush]
@[simp] theorem State.completeFlush_hport (s : State) (k : SlotId) (p : Source) (t : Tag) : (s.completeFlush k p t).hport = s.hport :=
    (s.completeFlush_frame k p t).1
@[simp] theorem State.completeFlush_adm (s : State) (k : SlotId) (p : Source) (t : Tag) : (s.completeFlush k p t).adm = s.adm :=
    (s.completeFlush_frame k p t).2.1
@[simp] theorem State.completeFlush_tt_tagMap (s : State) (k : SlotId) (p : Source) (t : Tag) : (s.completeFlush k p t).tt.tagMap = s.tt.tagMap :=
    (s.completeFlush_frame k p t).2.2.1
@[simp] theorem State.completeFlush_mb (s : State) (k : SlotId) (p : Source) (t : Tag) : (s.completeFlush k p t).mb = s.mb :=
    (s.completeFlush_frame k p t).2.2.2.1
@[simp] theorem State.completeFlush_es (s : State) (k : SlotId) (p : Source) (t : Tag) : (s.completeFlush k p t).es = s.es :=
    (s.completeFlush_frame k p t).2.2.2.2.1
@[simp] theorem State.completeFlush_mport_up (s : State) (k : SlotId) (p : Source) (t : Tag) : (s.completeFlush k p t).mport.up = s.mport.up :=
    (s.completeFlush_frame k p t).2.2.2.2.2.1
@[simp] theorem State.completeFlush_mport_credits (s : State) (k : SlotId) (p : Source) (t : Tag) : (s.completeFlush k p t).mport.credits = s.mport.credits :=
    (s.completeFlush_frame k p t).2.2.2.2.2.2.1
@[simp] theorem State.completeFlush_mport_iq (s : State) (k : SlotId) (p : Source) (t : Tag) : (s.completeFlush k p t).mport.iq = s.mport.iq :=
    (s.completeFlush_frame k p t).2.2.2.2.2.2.2.1
@[simp] theorem State.completeFlush_mport_sent (s : State) (k : SlotId) (p : Source) (t : Tag) : (s.completeFlush k p t).mport.sent = s.mport.sent :=
    (s.completeFlush_frame k p t).2.2.2.2.2.2.2.2.1
@[simp] theorem State.completeFlush_mport_restarts (s : State) (k : SlotId) (p : Source) (t : Tag) : (s.completeFlush k p t).mport.restarts = s.mport.restarts :=
    (s.completeFlush_frame k p t).2.2.2.2.2.2.2.2.2.1
@[simp] theorem State.completeFlush_resp_rq (s : State) (k : SlotId) (p : Source) (t : Tag) : (s.completeFlush k p t).resp.rq = s.resp.rq :=
    (s.completeFlush_frame k p t).2.2.2.2.2.2.2.2.2.2.1
@[simp] theorem State.completeFlush_resp_credits (s : State) (k : SlotId) (p : Source) (t : Tag) : (s.completeFlush k p t).resp.credits = s.resp.credits :=
    (s.completeFlush_frame k p t).2.2.2.2.2.2.2.2.2.2.2.1
@[simp] theorem State.completeFlush_meter (s : State) (k : SlotId) (p : Source) (t : Tag) : (s.completeFlush k p t).meter = s.meter :=
    (s.completeFlush_frame k p t).2.2.2.2.2.2.2.2.2.2.2.2.1
@[simp] theorem State.completeFlush_mgmt (s : State) (k : SlotId) (p : Source) (t : Tag) : (s.completeFlush k p t).mgmt = s.mgmt :=
    (s.completeFlush_frame k p t).2.2.2.2.2.2.2.2.2.2.2.2.2.1
@[simp] theorem State.completeFlush_pending (s : State) (k : SlotId) (p : Source) (t : Tag) : (s.completeFlush k p t).pending = s.pending :=
    (s.completeFlush_frame k p t).2.2.2.2.2.2.2.2.2.2.2.2.2.2.1
@[simp] theorem State.completeFlush_choices (s : State) (k : SlotId) (p : Source) (t : Tag) : (s.completeFlush k p t).choices = s.choices :=
    (s.completeFlush_frame k p t).2.2.2.2.2.2.2.2.2.2.2.2.2.2.2
@[simp] theorem State.completeFlush_buffer (s : State) (k : SlotId) (p : Source) (t : Tag) (b : BufferId) :
    (s.completeFlush k p t).buffer b = s.buffer b := State.buffer_congr (s.completeFlush_mb k p t) b
@[simp] theorem State.completeFlush_entry (s : State) (k : SlotId) (p : Source) (t : Tag) (e : EntryId) :
    (s.completeFlush k p t).entry e = s.entry e := State.entry_congr (s.completeFlush_es k p t) e
@[simp] theorem State.completeFlush_meterOf (s : State) (k : SlotId) (p : Source) (t : Tag) (src : Source) :
    (s.completeFlush k p t).meterOf src = s.meterOf src := State.meterOf_congr (s.completeFlush_meter k p t) src
@[simp] theorem State.completeFlush_counter (s : State) (k : SlotId) (p : Source) (t : Tag) (c : Counter) :
    (s.completeFlush k p t).counter c = s.counter c := State.counter_congr (s.completeFlush_mgmt k p t) c

/-! ### What `State.checkFlush` leaves -/

theorem State.checkFlush_frame (s : State) (p : Source) :
    (s.checkFlush p).hport = s.hport ∧ (s.checkFlush p).adm = s.adm ∧ (s.checkFlush p).tt.tagMap = s.tt.tagMap
      ∧ (s.checkFlush p).mb = s.mb ∧ (s.checkFlush p).es = s.es ∧ (s.checkFlush p).mport.up = s.mport.up
      ∧ (s.checkFlush p).mport.credits = s.mport.credits ∧ (s.checkFlush p).mport.iq = s.mport.iq
      ∧ (s.checkFlush p).mport.sent = s.mport.sent ∧ (s.checkFlush p).mport.restarts = s.mport.restarts
      ∧ (s.checkFlush p).resp.rq = s.resp.rq ∧ (s.checkFlush p).resp.credits = s.resp.credits
      ∧ (s.checkFlush p).meter = s.meter ∧ (s.checkFlush p).mgmt = s.mgmt ∧ (s.checkFlush p).pending = s.pending
      ∧ (s.checkFlush p).choices = s.choices := by
  unfold State.checkFlush; (repeat' split) <;> simp
@[simp] theorem State.checkFlush_hport (s : State) (p : Source) : (s.checkFlush p).hport = s.hport :=
    (s.checkFlush_frame p).1
@[simp] theorem State.checkFlush_adm (s : State) (p : Source) : (s.checkFlush p).adm = s.adm :=
    (s.checkFlush_frame p).2.1
@[simp] theorem State.checkFlush_tt_tagMap (s : State) (p : Source) : (s.checkFlush p).tt.tagMap = s.tt.tagMap :=
    (s.checkFlush_frame p).2.2.1
@[simp] theorem State.checkFlush_mb (s : State) (p : Source) : (s.checkFlush p).mb = s.mb :=
    (s.checkFlush_frame p).2.2.2.1
@[simp] theorem State.checkFlush_es (s : State) (p : Source) : (s.checkFlush p).es = s.es :=
    (s.checkFlush_frame p).2.2.2.2.1
@[simp] theorem State.checkFlush_mport_up (s : State) (p : Source) : (s.checkFlush p).mport.up = s.mport.up :=
    (s.checkFlush_frame p).2.2.2.2.2.1
@[simp] theorem State.checkFlush_mport_credits (s : State) (p : Source) : (s.checkFlush p).mport.credits = s.mport.credits :=
    (s.checkFlush_frame p).2.2.2.2.2.2.1
@[simp] theorem State.checkFlush_mport_iq (s : State) (p : Source) : (s.checkFlush p).mport.iq = s.mport.iq :=
    (s.checkFlush_frame p).2.2.2.2.2.2.2.1
@[simp] theorem State.checkFlush_mport_sent (s : State) (p : Source) : (s.checkFlush p).mport.sent = s.mport.sent :=
    (s.checkFlush_frame p).2.2.2.2.2.2.2.2.1
@[simp] theorem State.checkFlush_mport_restarts (s : State) (p : Source) : (s.checkFlush p).mport.restarts = s.mport.restarts :=
    (s.checkFlush_frame p).2.2.2.2.2.2.2.2.2.1
@[simp] theorem State.checkFlush_resp_rq (s : State) (p : Source) : (s.checkFlush p).resp.rq = s.resp.rq :=
    (s.checkFlush_frame p).2.2.2.2.2.2.2.2.2.2.1
@[simp] theorem State.checkFlush_resp_credits (s : State) (p : Source) : (s.checkFlush p).resp.credits = s.resp.credits :=
    (s.checkFlush_frame p).2.2.2.2.2.2.2.2.2.2.2.1
@[simp] theorem State.checkFlush_meter (s : State) (p : Source) : (s.checkFlush p).meter = s.meter :=
    (s.checkFlush_frame p).2.2.2.2.2.2.2.2.2.2.2.2.1
@[simp] theorem State.checkFlush_mgmt (s : State) (p : Source) : (s.checkFlush p).mgmt = s.mgmt :=
    (s.checkFlush_frame p).2.2.2.2.2.2.2.2.2.2.2.2.2.1
@[simp] theorem State.checkFlush_pending (s : State) (p : Source) : (s.checkFlush p).pending = s.pending :=
    (s.checkFlush_frame p).2.2.2.2.2.2.2.2.2.2.2.2.2.2.1
@[simp] theorem State.checkFlush_choices (s : State) (p : Source) : (s.checkFlush p).choices = s.choices :=
    (s.checkFlush_frame p).2.2.2.2.2.2.2.2.2.2.2.2.2.2.2
@[simp] theorem State.checkFlush_buffer (s : State) (p : Source) (b : BufferId) :
    (s.checkFlush p).buffer b = s.buffer b := State.buffer_congr (s.checkFlush_mb p) b
@[simp] theorem State.checkFlush_entry (s : State) (p : Source) (e : EntryId) :
    (s.checkFlush p).entry e = s.entry e := State.entry_congr (s.checkFlush_es p) e
@[simp] theorem State.checkFlush_meterOf (s : State) (p : Source) (src : Source) :
    (s.checkFlush p).meterOf src = s.meterOf src := State.meterOf_congr (s.checkFlush_meter p) src
@[simp] theorem State.checkFlush_counter (s : State) (p : Source) (c : Counter) :
    (s.checkFlush p).counter c = s.counter c := State.counter_congr (s.checkFlush_mgmt p) c

/-! ### What `State.countDown` leaves -/

theorem State.countDown_frame (s : State) (k : SlotId) :
    (s.countDown k).hport = s.hport ∧ (s.countDown k).adm = s.adm ∧ (s.countDown k).tt.tagMap = s.tt.tagMap
      ∧ (s.countDown k).mb = s.mb ∧ (s.countDown k).es = s.es ∧ (s.countDown k).mport.up = s.mport.up
      ∧ (s.countDown k).mport.credits = s.mport.credits ∧ (s.countDown k).mport.iq = s.mport.iq
      ∧ (s.countDown k).mport.sent = s.mport.sent ∧ (s.countDown k).mport.restarts = s.mport.restarts
      ∧ (s.countDown k).resp.rq = s.resp.rq ∧ (s.countDown k).resp.credits = s.resp.credits
      ∧ (s.countDown k).meter = s.meter ∧ (s.countDown k).mgmt = s.mgmt ∧ (s.countDown k).pending = s.pending
      ∧ (s.countDown k).choices = s.choices := by
  unfold State.countDown; (repeat' split) <;> simp
@[simp] theorem State.countDown_hport (s : State) (k : SlotId) : (s.countDown k).hport = s.hport :=
    (s.countDown_frame k).1
@[simp] theorem State.countDown_adm (s : State) (k : SlotId) : (s.countDown k).adm = s.adm := (s.countDown_frame k).2.1
@[simp] theorem State.countDown_tt_tagMap (s : State) (k : SlotId) : (s.countDown k).tt.tagMap = s.tt.tagMap :=
    (s.countDown_frame k).2.2.1
@[simp] theorem State.countDown_mb (s : State) (k : SlotId) : (s.countDown k).mb = s.mb :=
    (s.countDown_frame k).2.2.2.1
@[simp] theorem State.countDown_es (s : State) (k : SlotId) : (s.countDown k).es = s.es :=
    (s.countDown_frame k).2.2.2.2.1
@[simp] theorem State.countDown_mport_up (s : State) (k : SlotId) : (s.countDown k).mport.up = s.mport.up :=
    (s.countDown_frame k).2.2.2.2.2.1
@[simp] theorem State.countDown_mport_credits (s : State) (k : SlotId) : (s.countDown k).mport.credits = s.mport.credits :=
    (s.countDown_frame k).2.2.2.2.2.2.1
@[simp] theorem State.countDown_mport_iq (s : State) (k : SlotId) : (s.countDown k).mport.iq = s.mport.iq :=
    (s.countDown_frame k).2.2.2.2.2.2.2.1
@[simp] theorem State.countDown_mport_sent (s : State) (k : SlotId) : (s.countDown k).mport.sent = s.mport.sent :=
    (s.countDown_frame k).2.2.2.2.2.2.2.2.1
@[simp] theorem State.countDown_mport_restarts (s : State) (k : SlotId) : (s.countDown k).mport.restarts = s.mport.restarts :=
    (s.countDown_frame k).2.2.2.2.2.2.2.2.2.1
@[simp] theorem State.countDown_resp_rq (s : State) (k : SlotId) : (s.countDown k).resp.rq = s.resp.rq :=
    (s.countDown_frame k).2.2.2.2.2.2.2.2.2.2.1
@[simp] theorem State.countDown_resp_credits (s : State) (k : SlotId) : (s.countDown k).resp.credits = s.resp.credits :=
    (s.countDown_frame k).2.2.2.2.2.2.2.2.2.2.2.1
@[simp] theorem State.countDown_meter (s : State) (k : SlotId) : (s.countDown k).meter = s.meter :=
    (s.countDown_frame k).2.2.2.2.2.2.2.2.2.2.2.2.1
@[simp] theorem State.countDown_mgmt (s : State) (k : SlotId) : (s.countDown k).mgmt = s.mgmt :=
    (s.countDown_frame k).2.2.2.2.2.2.2.2.2.2.2.2.2.1
@[simp] theorem State.countDown_pending (s : State) (k : SlotId) : (s.countDown k).pending = s.pending :=
    (s.countDown_frame k).2.2.2.2.2.2.2.2.2.2.2.2.2.2.1
@[simp] theorem State.countDown_choices (s : State) (k : SlotId) : (s.countDown k).choices = s.choices :=
    (s.countDown_frame k).2.2.2.2.2.2.2.2.2.2.2.2.2.2.2
@[simp] theorem State.countDown_buffer (s : State) (k : SlotId) (b : BufferId) :
    (s.countDown k).buffer b = s.buffer b := State.buffer_congr (s.countDown_mb k) b
@[simp] theorem State.countDown_entry (s : State) (k : SlotId) (e : EntryId) :
    (s.countDown k).entry e = s.entry e := State.entry_congr (s.countDown_es k) e
@[simp] theorem State.countDown_meterOf (s : State) (k : SlotId) (src : Source) :
    (s.countDown k).meterOf src = s.meterOf src := State.meterOf_congr (s.countDown_meter k) src
@[simp] theorem State.countDown_counter (s : State) (k : SlotId) (c : Counter) :
    (s.countDown k).counter c = s.counter c := State.counter_congr (s.countDown_mgmt k) c

/-! ### What `State.countDownAll` leaves -/

theorem State.countDownAll_frame (s : State) (l : List SlotId) :
    (s.countDownAll l).hport = s.hport ∧ (s.countDownAll l).adm = s.adm
      ∧ (s.countDownAll l).tt.tagMap = s.tt.tagMap ∧ (s.countDownAll l).mb = s.mb ∧ (s.countDownAll l).es = s.es
      ∧ (s.countDownAll l).mport.up = s.mport.up ∧ (s.countDownAll l).mport.credits = s.mport.credits
      ∧ (s.countDownAll l).mport.iq = s.mport.iq ∧ (s.countDownAll l).mport.sent = s.mport.sent
      ∧ (s.countDownAll l).mport.restarts = s.mport.restarts ∧ (s.countDownAll l).resp.rq = s.resp.rq
      ∧ (s.countDownAll l).resp.credits = s.resp.credits ∧ (s.countDownAll l).meter = s.meter
      ∧ (s.countDownAll l).mgmt = s.mgmt ∧ (s.countDownAll l).pending = s.pending
      ∧ (s.countDownAll l).choices = s.choices := by
  unfold State.countDownAll
  exact ⟨foldl_keeps (fun t : State => t.hport) _ (by intro t x; simp) _ _,
    foldl_keeps (fun t : State => t.adm) _ (by intro t x; simp) _ _,
    foldl_keeps (fun t : State => t.tt.tagMap) _ (by intro t x; simp) _ _,
    foldl_keeps (fun t : State => t.mb) _ (by intro t x; simp) _ _,
    foldl_keeps (fun t : State => t.es) _ (by intro t x; simp) _ _,
    foldl_keeps (fun t : State => t.mport.up) _ (by intro t x; simp) _ _,
    foldl_keeps (fun t : State => t.mport.credits) _ (by intro t x; simp) _ _,
    foldl_keeps (fun t : State => t.mport.iq) _ (by intro t x; simp) _ _,
    foldl_keeps (fun t : State => t.mport.sent) _ (by intro t x; simp) _ _,
    foldl_keeps (fun t : State => t.mport.restarts) _ (by intro t x; simp) _ _,
    foldl_keeps (fun t : State => t.resp.rq) _ (by intro t x; simp) _ _,
    foldl_keeps (fun t : State => t.resp.credits) _ (by intro t x; simp) _ _,
    foldl_keeps (fun t : State => t.meter) _ (by intro t x; simp) _ _,
    foldl_keeps (fun t : State => t.mgmt) _ (by intro t x; simp) _ _,
    foldl_keeps (fun t : State => t.pending) _ (by intro t x; simp) _ _,
    foldl_keeps (fun t : State => t.choices) _ (by intro t x; simp) _ _⟩
@[simp] theorem State.countDownAll_hport (s : State) (l : List SlotId) : (s.countDownAll l).hport = s.hport :=
    (s.countDownAll_frame l).1
@[simp] theorem State.countDownAll_adm (s : State) (l : List SlotId) : (s.countDownAll l).adm = s.adm :=
    (s.countDownAll_frame l).2.1
@[simp] theorem State.countDownAll_tt_tagMap (s : State) (l : List SlotId) : (s.countDownAll l).tt.tagMap = s.tt.tagMap :=
    (s.countDownAll_frame l).2.2.1
@[simp] theorem State.countDownAll_mb (s : State) (l : List SlotId) : (s.countDownAll l).mb = s.mb :=
    (s.countDownAll_frame l).2.2.2.1
@[simp] theorem State.countDownAll_es (s : State) (l : List SlotId) : (s.countDownAll l).es = s.es :=
    (s.countDownAll_frame l).2.2.2.2.1
@[simp] theorem State.countDownAll_mport_up (s : State) (l : List SlotId) : (s.countDownAll l).mport.up = s.mport.up :=
    (s.countDownAll_frame l).2.2.2.2.2.1
@[simp] theorem State.countDownAll_mport_credits (s : State) (l : List SlotId) : (s.countDownAll l).mport.credits = s.mport.credits :=
    (s.countDownAll_frame l).2.2.2.2.2.2.1
@[simp] theorem State.countDownAll_mport_iq (s : State) (l : List SlotId) : (s.countDownAll l).mport.iq = s.mport.iq :=
    (s.countDownAll_frame l).2.2.2.2.2.2.2.1
@[simp] theorem State.countDownAll_mport_sent (s : State) (l : List SlotId) : (s.countDownAll l).mport.sent = s.mport.sent :=
    (s.countDownAll_frame l).2.2.2.2.2.2.2.2.1
@[simp] theorem State.countDownAll_mport_restarts (s : State) (l : List SlotId) : (s.countDownAll l).mport.restarts = s.mport.restarts :=
    (s.countDownAll_frame l).2.2.2.2.2.2.2.2.2.1
@[simp] theorem State.countDownAll_resp_rq (s : State) (l : List SlotId) : (s.countDownAll l).resp.rq = s.resp.rq :=
    (s.countDownAll_frame l).2.2.2.2.2.2.2.2.2.2.1
@[simp] theorem State.countDownAll_resp_credits (s : State) (l : List SlotId) : (s.countDownAll l).resp.credits = s.resp.credits :=
    (s.countDownAll_frame l).2.2.2.2.2.2.2.2.2.2.2.1
@[simp] theorem State.countDownAll_meter (s : State) (l : List SlotId) : (s.countDownAll l).meter = s.meter :=
    (s.countDownAll_frame l).2.2.2.2.2.2.2.2.2.2.2.2.1
@[simp] theorem State.countDownAll_mgmt (s : State) (l : List SlotId) : (s.countDownAll l).mgmt = s.mgmt :=
    (s.countDownAll_frame l).2.2.2.2.2.2.2.2.2.2.2.2.2.1
@[simp] theorem State.countDownAll_pending (s : State) (l : List SlotId) : (s.countDownAll l).pending = s.pending :=
    (s.countDownAll_frame l).2.2.2.2.2.2.2.2.2.2.2.2.2.2.1
@[simp] theorem State.countDownAll_choices (s : State) (l : List SlotId) : (s.countDownAll l).choices = s.choices :=
    (s.countDownAll_frame l).2.2.2.2.2.2.2.2.2.2.2.2.2.2.2
@[simp] theorem State.countDownAll_buffer (s : State) (l : List SlotId) (b : BufferId) :
    (s.countDownAll l).buffer b = s.buffer b := State.buffer_congr (s.countDownAll_mb l) b
@[simp] theorem State.countDownAll_entry (s : State) (l : List SlotId) (e : EntryId) :
    (s.countDownAll l).entry e = s.entry e := State.entry_congr (s.countDownAll_es l) e
@[simp] theorem State.countDownAll_meterOf (s : State) (l : List SlotId) (src : Source) :
    (s.countDownAll l).meterOf src = s.meterOf src := State.meterOf_congr (s.countDownAll_meter l) src
@[simp] theorem State.countDownAll_counter (s : State) (l : List SlotId) (c : Counter) :
    (s.countDownAll l).counter c = s.counter c := State.counter_congr (s.countDownAll_mgmt l) c

/-! ### What `State.freeMerged` leaves -/

theorem State.freeMerged_frame (s : State) (k : BufferId) :
    (s.freeMerged k).hport = s.hport ∧ (s.freeMerged k).adm = s.adm ∧ (s.freeMerged k).tt.tagMap = s.tt.tagMap
      ∧ (s.freeMerged k).mb = s.mb ∧ (s.freeMerged k).fl = s.fl ∧ (s.freeMerged k).es = s.es
      ∧ (s.freeMerged k).mport.up = s.mport.up ∧ (s.freeMerged k).mport.credits = s.mport.credits
      ∧ (s.freeMerged k).mport.iq = s.mport.iq ∧ (s.freeMerged k).mport.sent = s.mport.sent
      ∧ (s.freeMerged k).mport.restarts = s.mport.restarts ∧ (s.freeMerged k).resp = s.resp
      ∧ (s.freeMerged k).meter = s.meter ∧ (s.freeMerged k).mgmt = s.mgmt ∧ (s.freeMerged k).pending = s.pending
      ∧ (s.freeMerged k).choices = s.choices := by
  unfold State.freeMerged
  generalize slotIds = l
  exact ⟨foldl_keeps (fun t : State => t.hport) _ (by intro t x; split <;> simp) _ _,
    foldl_keeps (fun t : State => t.adm) _ (by intro t x; split <;> simp) _ _,
    foldl_keeps (fun t : State => t.tt.tagMap) _ (by intro t x; split <;> simp) _ _,
    foldl_keeps (fun t : State => t.mb) _ (by intro t x; split <;> simp) _ _,
    foldl_keeps (fun t : State => t.fl) _ (by intro t x; split <;> simp) _ _,
    foldl_keeps (fun t : State => t.es) _ (by intro t x; split <;> simp) _ _,
    foldl_keeps (fun t : State => t.mport.up) _ (by intro t x; split <;> simp) _ _,
    foldl_keeps (fun t : State => t.mport.credits) _ (by intro t x; split <;> simp) _ _,
    foldl_keeps (fun t : State => t.mport.iq) _ (by intro t x; split <;> simp) _ _,
    foldl_keeps (fun t : State => t.mport.sent) _ (by intro t x; split <;> simp) _ _,
    foldl_keeps (fun t : State => t.mport.restarts) _ (by intro t x; split <;> simp) _ _,
    foldl_keeps (fun t : State => t.resp) _ (by intro t x; split <;> simp) _ _,
    foldl_keeps (fun t : State => t.meter) _ (by intro t x; split <;> simp) _ _,
    foldl_keeps (fun t : State => t.mgmt) _ (by intro t x; split <;> simp) _ _,
    foldl_keeps (fun t : State => t.pending) _ (by intro t x; split <;> simp) _ _,
    foldl_keeps (fun t : State => t.choices) _ (by intro t x; split <;> simp) _ _⟩
@[simp] theorem State.freeMerged_hport (s : State) (k : BufferId) : (s.freeMerged k).hport = s.hport :=
    (s.freeMerged_frame k).1
@[simp] theorem State.freeMerged_adm (s : State) (k : BufferId) : (s.freeMerged k).adm = s.adm :=
    (s.freeMerged_frame k).2.1
@[simp] theorem State.freeMerged_tt_tagMap (s : State) (k : BufferId) : (s.freeMerged k).tt.tagMap = s.tt.tagMap :=
    (s.freeMerged_frame k).2.2.1
@[simp] theorem State.freeMerged_mb (s : State) (k : BufferId) : (s.freeMerged k).mb = s.mb :=
    (s.freeMerged_frame k).2.2.2.1
@[simp] theorem State.freeMerged_fl (s : State) (k : BufferId) : (s.freeMerged k).fl = s.fl :=
    (s.freeMerged_frame k).2.2.2.2.1
@[simp] theorem State.freeMerged_es (s : State) (k : BufferId) : (s.freeMerged k).es = s.es :=
    (s.freeMerged_frame k).2.2.2.2.2.1
@[simp] theorem State.freeMerged_mport_up (s : State) (k : BufferId) : (s.freeMerged k).mport.up = s.mport.up :=
    (s.freeMerged_frame k).2.2.2.2.2.2.1
@[simp] theorem State.freeMerged_mport_credits (s : State) (k : BufferId) : (s.freeMerged k).mport.credits = s.mport.credits :=
    (s.freeMerged_frame k).2.2.2.2.2.2.2.1
@[simp] theorem State.freeMerged_mport_iq (s : State) (k : BufferId) : (s.freeMerged k).mport.iq = s.mport.iq :=
    (s.freeMerged_frame k).2.2.2.2.2.2.2.2.1
@[simp] theorem State.freeMerged_mport_sent (s : State) (k : BufferId) : (s.freeMerged k).mport.sent = s.mport.sent :=
    (s.freeMerged_frame k).2.2.2.2.2.2.2.2.2.1
@[simp] theorem State.freeMerged_mport_restarts (s : State) (k : BufferId) : (s.freeMerged k).mport.restarts = s.mport.restarts :=
    (s.freeMerged_frame k).2.2.2.2.2.2.2.2.2.2.1
@[simp] theorem State.freeMerged_resp (s : State) (k : BufferId) : (s.freeMerged k).resp = s.resp :=
    (s.freeMerged_frame k).2.2.2.2.2.2.2.2.2.2.2.1
@[simp] theorem State.freeMerged_meter (s : State) (k : BufferId) : (s.freeMerged k).meter = s.meter :=
    (s.freeMerged_frame k).2.2.2.2.2.2.2.2.2.2.2.2.1
@[simp] theorem State.freeMerged_mgmt (s : State) (k : BufferId) : (s.freeMerged k).mgmt = s.mgmt :=
    (s.freeMerged_frame k).2.2.2.2.2.2.2.2.2.2.2.2.2.1
@[simp] theorem State.freeMerged_pending (s : State) (k : BufferId) : (s.freeMerged k).pending = s.pending :=
    (s.freeMerged_frame k).2.2.2.2.2.2.2.2.2.2.2.2.2.2.1
@[simp] theorem State.freeMerged_choices (s : State) (k : BufferId) : (s.freeMerged k).choices = s.choices :=
    (s.freeMerged_frame k).2.2.2.2.2.2.2.2.2.2.2.2.2.2.2
@[simp] theorem State.freeMerged_buffer (s : State) (k : BufferId) (b : BufferId) :
    (s.freeMerged k).buffer b = s.buffer b := State.buffer_congr (s.freeMerged_mb k) b
@[simp] theorem State.freeMerged_entry (s : State) (k : BufferId) (e : EntryId) :
    (s.freeMerged k).entry e = s.entry e := State.entry_congr (s.freeMerged_es k) e
@[simp] theorem State.freeMerged_record (s : State) (k : BufferId) (src : Source) :
    (s.freeMerged k).record src = s.record src := State.record_congr (s.freeMerged_resp k) src
@[simp] theorem State.freeMerged_latch (s : State) (k : BufferId) (src : Source) :
    (s.freeMerged k).latch src = s.latch src := State.latch_congr (s.freeMerged_fl k) src
@[simp] theorem State.freeMerged_flushOrder (s : State) (k : BufferId) (src : Source) :
    (s.freeMerged k).flushOrder src = s.flushOrder src := State.flushOrder_congr (s.freeMerged_fl k) src
@[simp] theorem State.freeMerged_meterOf (s : State) (k : BufferId) (src : Source) :
    (s.freeMerged k).meterOf src = s.meterOf src := State.meterOf_congr (s.freeMerged_meter k) src
@[simp] theorem State.freeMerged_counter (s : State) (k : BufferId) (c : Counter) :
    (s.freeMerged k).counter c = s.counter c := State.counter_congr (s.freeMerged_mgmt k) c

/-! ### What `State.freeBuffer` leaves -/

theorem State.freeBuffer_frame (s : State) (k : BufferId) (x : Line) (l : List SlotId) :
    (s.freeBuffer k x l).hport = s.hport ∧ (s.freeBuffer k x l).adm = s.adm
      ∧ (s.freeBuffer k x l).tt.charges = s.tt.charges ∧ (s.freeBuffer k x l).tt.tagMap = s.tt.tagMap
      ∧ (s.freeBuffer k x l).tt.holding = s.tt.holding ∧ (s.freeBuffer k x l).fl = s.fl
      ∧ (s.freeBuffer k x l).es = s.es ∧ (s.freeBuffer k x l).mport.up = s.mport.up
      ∧ (s.freeBuffer k x l).mport.credits = s.mport.credits
      ∧ (s.freeBuffer k x l).mport.outstanding = s.mport.outstanding
      ∧ (s.freeBuffer k x l).mport.orphaned = s.mport.orphaned ∧ (s.freeBuffer k x l).mport.sent = s.mport.sent
      ∧ (s.freeBuffer k x l).mport.restarts = s.mport.restarts ∧ (s.freeBuffer k x l).resp = s.resp
      ∧ (s.freeBuffer k x l).meter = s.meter ∧ (s.freeBuffer k x l).mgmt = s.mgmt
      ∧ (s.freeBuffer k x l).pending = s.pending ∧ (s.freeBuffer k x l).choices = s.choices := by
  simp [State.freeBuffer]
@[simp] theorem State.freeBuffer_hport (s : State) (k : BufferId) (x : Line) (l : List SlotId) : (s.freeBuffer k x l).hport = s.hport :=
    (s.freeBuffer_frame k x l).1
@[simp] theorem State.freeBuffer_adm (s : State) (k : BufferId) (x : Line) (l : List SlotId) : (s.freeBuffer k x l).adm = s.adm :=
    (s.freeBuffer_frame k x l).2.1
@[simp] theorem State.freeBuffer_tt_charges (s : State) (k : BufferId) (x : Line) (l : List SlotId) : (s.freeBuffer k x l).tt.charges = s.tt.charges :=
    (s.freeBuffer_frame k x l).2.2.1
@[simp] theorem State.freeBuffer_tt_tagMap (s : State) (k : BufferId) (x : Line) (l : List SlotId) : (s.freeBuffer k x l).tt.tagMap = s.tt.tagMap :=
    (s.freeBuffer_frame k x l).2.2.2.1
@[simp] theorem State.freeBuffer_tt_holding (s : State) (k : BufferId) (x : Line) (l : List SlotId) : (s.freeBuffer k x l).tt.holding = s.tt.holding :=
    (s.freeBuffer_frame k x l).2.2.2.2.1
@[simp] theorem State.freeBuffer_fl (s : State) (k : BufferId) (x : Line) (l : List SlotId) : (s.freeBuffer k x l).fl = s.fl :=
    (s.freeBuffer_frame k x l).2.2.2.2.2.1
@[simp] theorem State.freeBuffer_es (s : State) (k : BufferId) (x : Line) (l : List SlotId) : (s.freeBuffer k x l).es = s.es :=
    (s.freeBuffer_frame k x l).2.2.2.2.2.2.1
@[simp] theorem State.freeBuffer_mport_up (s : State) (k : BufferId) (x : Line) (l : List SlotId) : (s.freeBuffer k x l).mport.up = s.mport.up :=
    (s.freeBuffer_frame k x l).2.2.2.2.2.2.2.1
@[simp] theorem State.freeBuffer_mport_credits (s : State) (k : BufferId) (x : Line) (l : List SlotId) : (s.freeBuffer k x l).mport.credits = s.mport.credits :=
    (s.freeBuffer_frame k x l).2.2.2.2.2.2.2.2.1
@[simp] theorem State.freeBuffer_mport_outstanding (s : State) (k : BufferId) (x : Line) (l : List SlotId) : (s.freeBuffer k x l).mport.outstanding = s.mport.outstanding :=
    (s.freeBuffer_frame k x l).2.2.2.2.2.2.2.2.2.1
@[simp] theorem State.freeBuffer_mport_orphaned (s : State) (k : BufferId) (x : Line) (l : List SlotId) : (s.freeBuffer k x l).mport.orphaned = s.mport.orphaned :=
    (s.freeBuffer_frame k x l).2.2.2.2.2.2.2.2.2.2.1
@[simp] theorem State.freeBuffer_mport_sent (s : State) (k : BufferId) (x : Line) (l : List SlotId) : (s.freeBuffer k x l).mport.sent = s.mport.sent :=
    (s.freeBuffer_frame k x l).2.2.2.2.2.2.2.2.2.2.2.1
@[simp] theorem State.freeBuffer_mport_restarts (s : State) (k : BufferId) (x : Line) (l : List SlotId) : (s.freeBuffer k x l).mport.restarts = s.mport.restarts :=
    (s.freeBuffer_frame k x l).2.2.2.2.2.2.2.2.2.2.2.2.1
@[simp] theorem State.freeBuffer_resp (s : State) (k : BufferId) (x : Line) (l : List SlotId) : (s.freeBuffer k x l).resp = s.resp :=
    (s.freeBuffer_frame k x l).2.2.2.2.2.2.2.2.2.2.2.2.2.1
@[simp] theorem State.freeBuffer_meter (s : State) (k : BufferId) (x : Line) (l : List SlotId) : (s.freeBuffer k x l).meter = s.meter :=
    (s.freeBuffer_frame k x l).2.2.2.2.2.2.2.2.2.2.2.2.2.2.1
@[simp] theorem State.freeBuffer_mgmt (s : State) (k : BufferId) (x : Line) (l : List SlotId) : (s.freeBuffer k x l).mgmt = s.mgmt :=
    (s.freeBuffer_frame k x l).2.2.2.2.2.2.2.2.2.2.2.2.2.2.2.1
@[simp] theorem State.freeBuffer_pending (s : State) (k : BufferId) (x : Line) (l : List SlotId) : (s.freeBuffer k x l).pending = s.pending :=
    (s.freeBuffer_frame k x l).2.2.2.2.2.2.2.2.2.2.2.2.2.2.2.2.1
@[simp] theorem State.freeBuffer_choices (s : State) (k : BufferId) (x : Line) (l : List SlotId) : (s.freeBuffer k x l).choices = s.choices :=
    (s.freeBuffer_frame k x l).2.2.2.2.2.2.2.2.2.2.2.2.2.2.2.2.2
@[simp] theorem State.freeBuffer_entry (s : State) (k : BufferId) (x : Line) (l : List SlotId) (e : EntryId) :
    (s.freeBuffer k x l).entry e = s.entry e := State.entry_congr (s.freeBuffer_es k x l) e
@[simp] theorem State.freeBuffer_record (s : State) (k : BufferId) (x : Line) (l : List SlotId) (src : Source) :
    (s.freeBuffer k x l).record src = s.record src := State.record_congr (s.freeBuffer_resp k x l) src
@[simp] theorem State.freeBuffer_latch (s : State) (k : BufferId) (x : Line) (l : List SlotId) (src : Source) :
    (s.freeBuffer k x l).latch src = s.latch src := State.latch_congr (s.freeBuffer_fl k x l) src
@[simp] theorem State.freeBuffer_flushOrder (s : State) (k : BufferId) (x : Line) (l : List SlotId) (src : Source) :
    (s.freeBuffer k x l).flushOrder src = s.flushOrder src := State.flushOrder_congr (s.freeBuffer_fl k x l) src
@[simp] theorem State.freeBuffer_holdingOf (s : State) (k : BufferId) (x : Line) (l : List SlotId) (src : Source) :
    (s.freeBuffer k x l).holdingOf src = s.holdingOf src := congrArg (tget · src) (s.freeBuffer_tt_holding k x l)
@[simp] theorem State.freeBuffer_meterOf (s : State) (k : BufferId) (x : Line) (l : List SlotId) (src : Source) :
    (s.freeBuffer k x l).meterOf src = s.meterOf src := State.meterOf_congr (s.freeBuffer_meter k x l) src
@[simp] theorem State.freeBuffer_counter (s : State) (k : BufferId) (x : Line) (l : List SlotId) (c : Counter) :
    (s.freeBuffer k x l).counter c = s.counter c := State.counter_congr (s.freeBuffer_mgmt k x l) c

/-! ### What `State.resolveBuffer` leaves -/

theorem State.resolveBuffer_frame (s : State) (k : BufferId) (x : Line) (l l' : List SlotId) :
    (s.resolveBuffer k x l l').hport = s.hport ∧ (s.resolveBuffer k x l l').adm = s.adm
      ∧ (s.resolveBuffer k x l l').tt.tagMap = s.tt.tagMap ∧ (s.resolveBuffer k x l l').es = s.es
      ∧ (s.resolveBuffer k x l l').mport.up = s.mport.up
      ∧ (s.resolveBuffer k x l l').mport.credits = s.mport.credits
      ∧ (s.resolveBuffer k x l l').mport.sent = s.mport.sent
      ∧ (s.resolveBuffer k x l l').mport.restarts = s.mport.restarts
      ∧ (s.resolveBuffer k x l l').resp.rq = s.resp.rq
      ∧ (s.resolveBuffer k x l l').resp.credits = s.resp.credits ∧ (s.resolveBuffer k x l l').meter = s.meter
      ∧ (s.resolveBuffer k x l l').mgmt = s.mgmt ∧ (s.resolveBuffer k x l l').pending = s.pending
      ∧ (s.resolveBuffer k x l l').choices = s.choices := by
  simp [State.resolveBuffer]
@[simp] theorem State.resolveBuffer_hport (s : State) (k : BufferId) (x : Line) (l l' : List SlotId) : (s.resolveBuffer k x l l').hport = s.hport :=
    (s.resolveBuffer_frame k x l l').1
@[simp] theorem State.resolveBuffer_adm (s : State) (k : BufferId) (x : Line) (l l' : List SlotId) : (s.resolveBuffer k x l l').adm = s.adm :=
    (s.resolveBuffer_frame k x l l').2.1
@[simp] theorem State.resolveBuffer_tt_tagMap (s : State) (k : BufferId) (x : Line) (l l' : List SlotId) : (s.resolveBuffer k x l l').tt.tagMap = s.tt.tagMap :=
    (s.resolveBuffer_frame k x l l').2.2.1
@[simp] theorem State.resolveBuffer_es (s : State) (k : BufferId) (x : Line) (l l' : List SlotId) : (s.resolveBuffer k x l l').es = s.es :=
    (s.resolveBuffer_frame k x l l').2.2.2.1
@[simp] theorem State.resolveBuffer_mport_up (s : State) (k : BufferId) (x : Line) (l l' : List SlotId) : (s.resolveBuffer k x l l').mport.up = s.mport.up :=
    (s.resolveBuffer_frame k x l l').2.2.2.2.1
@[simp] theorem State.resolveBuffer_mport_credits (s : State) (k : BufferId) (x : Line) (l l' : List SlotId) : (s.resolveBuffer k x l l').mport.credits = s.mport.credits :=
    (s.resolveBuffer_frame k x l l').2.2.2.2.2.1
@[simp] theorem State.resolveBuffer_mport_sent (s : State) (k : BufferId) (x : Line) (l l' : List SlotId) : (s.resolveBuffer k x l l').mport.sent = s.mport.sent :=
    (s.resolveBuffer_frame k x l l').2.2.2.2.2.2.1
@[simp] theorem State.resolveBuffer_mport_restarts (s : State) (k : BufferId) (x : Line) (l l' : List SlotId) : (s.resolveBuffer k x l l').mport.restarts = s.mport.restarts :=
    (s.resolveBuffer_frame k x l l').2.2.2.2.2.2.2.1
@[simp] theorem State.resolveBuffer_resp_rq (s : State) (k : BufferId) (x : Line) (l l' : List SlotId) : (s.resolveBuffer k x l l').resp.rq = s.resp.rq :=
    (s.resolveBuffer_frame k x l l').2.2.2.2.2.2.2.2.1
@[simp] theorem State.resolveBuffer_resp_credits (s : State) (k : BufferId) (x : Line) (l l' : List SlotId) : (s.resolveBuffer k x l l').resp.credits = s.resp.credits :=
    (s.resolveBuffer_frame k x l l').2.2.2.2.2.2.2.2.2.1
@[simp] theorem State.resolveBuffer_meter (s : State) (k : BufferId) (x : Line) (l l' : List SlotId) : (s.resolveBuffer k x l l').meter = s.meter :=
    (s.resolveBuffer_frame k x l l').2.2.2.2.2.2.2.2.2.2.1
@[simp] theorem State.resolveBuffer_mgmt (s : State) (k : BufferId) (x : Line) (l l' : List SlotId) : (s.resolveBuffer k x l l').mgmt = s.mgmt :=
    (s.resolveBuffer_frame k x l l').2.2.2.2.2.2.2.2.2.2.2.1
@[simp] theorem State.resolveBuffer_pending (s : State) (k : BufferId) (x : Line) (l l' : List SlotId) : (s.resolveBuffer k x l l').pending = s.pending :=
    (s.resolveBuffer_frame k x l l').2.2.2.2.2.2.2.2.2.2.2.2.1
@[simp] theorem State.resolveBuffer_choices (s : State) (k : BufferId) (x : Line) (l l' : List SlotId) : (s.resolveBuffer k x l l').choices = s.choices :=
    (s.resolveBuffer_frame k x l l').2.2.2.2.2.2.2.2.2.2.2.2.2
@[simp] theorem State.resolveBuffer_entry (s : State) (k : BufferId) (x : Line) (l l' : List SlotId) (e : EntryId) :
    (s.resolveBuffer k x l l').entry e = s.entry e := State.entry_congr (s.resolveBuffer_es k x l l') e
@[simp] theorem State.resolveBuffer_meterOf (s : State) (k : BufferId) (x : Line) (l l' : List SlotId) (src : Source) :
    (s.resolveBuffer k x l l').meterOf src = s.meterOf src := State.meterOf_congr (s.resolveBuffer_meter k x l l') src
@[simp] theorem State.resolveBuffer_counter (s : State) (k : BufferId) (x : Line) (l l' : List SlotId) (c : Counter) :
    (s.resolveBuffer k x l l').counter c = s.counter c := State.counter_congr (s.resolveBuffer_mgmt k x l l') c

/-! ### What `State.writeMeetsEntry` leaves -/

theorem State.writeMeetsEntry_frame (s : State) (l : Line) :
    (s.writeMeetsEntry l).hport = s.hport ∧ (s.writeMeetsEntry l).adm = s.adm ∧ (s.writeMeetsEntry l).tt = s.tt
      ∧ (s.writeMeetsEntry l).mb = s.mb ∧ (s.writeMeetsEntry l).fl = s.fl
      ∧ (s.writeMeetsEntry l).mport = s.mport ∧ (s.writeMeetsEntry l).resp = s.resp
      ∧ (s.writeMeetsEntry l).meter = s.meter ∧ (s.writeMeetsEntry l).mgmt = s.mgmt
      ∧ (s.writeMeetsEntry l).pending = s.pending ∧ (s.writeMeetsEntry l).choices = s.choices := by
  unfold State.writeMeetsEntry; (repeat' split) <;> simp
@[simp] theorem State.writeMeetsEntry_hport (s : State) (l : Line) : (s.writeMeetsEntry l).hport = s.hport :=
    (s.writeMeetsEntry_frame l).1
@[simp] theorem State.writeMeetsEntry_adm (s : State) (l : Line) : (s.writeMeetsEntry l).adm = s.adm :=
    (s.writeMeetsEntry_frame l).2.1
@[simp] theorem State.writeMeetsEntry_tt (s : State) (l : Line) : (s.writeMeetsEntry l).tt = s.tt :=
    (s.writeMeetsEntry_frame l).2.2.1
@[simp] theorem State.writeMeetsEntry_mb (s : State) (l : Line) : (s.writeMeetsEntry l).mb = s.mb :=
    (s.writeMeetsEntry_frame l).2.2.2.1
@[simp] theorem State.writeMeetsEntry_fl (s : State) (l : Line) : (s.writeMeetsEntry l).fl = s.fl :=
    (s.writeMeetsEntry_frame l).2.2.2.2.1
@[simp] theorem State.writeMeetsEntry_mport (s : State) (l : Line) : (s.writeMeetsEntry l).mport = s.mport :=
    (s.writeMeetsEntry_frame l).2.2.2.2.2.1
@[simp] theorem State.writeMeetsEntry_resp (s : State) (l : Line) : (s.writeMeetsEntry l).resp = s.resp :=
    (s.writeMeetsEntry_frame l).2.2.2.2.2.2.1
@[simp] theorem State.writeMeetsEntry_meter (s : State) (l : Line) : (s.writeMeetsEntry l).meter = s.meter :=
    (s.writeMeetsEntry_frame l).2.2.2.2.2.2.2.1
@[simp] theorem State.writeMeetsEntry_mgmt (s : State) (l : Line) : (s.writeMeetsEntry l).mgmt = s.mgmt :=
    (s.writeMeetsEntry_frame l).2.2.2.2.2.2.2.2.1
@[simp] theorem State.writeMeetsEntry_pending (s : State) (l : Line) : (s.writeMeetsEntry l).pending = s.pending :=
    (s.writeMeetsEntry_frame l).2.2.2.2.2.2.2.2.2.1
@[simp] theorem State.writeMeetsEntry_choices (s : State) (l : Line) : (s.writeMeetsEntry l).choices = s.choices :=
    (s.writeMeetsEntry_frame l).2.2.2.2.2.2.2.2.2.2
@[simp] theorem State.writeMeetsEntry_slot (s : State) (l : Line) (i : SlotId) :
    (s.writeMeetsEntry l).slot i = s.slot i := State.slot_congr (s.writeMeetsEntry_tt l) i
@[simp] theorem State.writeMeetsEntry_buffer (s : State) (l : Line) (b : BufferId) :
    (s.writeMeetsEntry l).buffer b = s.buffer b := State.buffer_congr (s.writeMeetsEntry_mb l) b
@[simp] theorem State.writeMeetsEntry_record (s : State) (l : Line) (src : Source) :
    (s.writeMeetsEntry l).record src = s.record src := State.record_congr (s.writeMeetsEntry_resp l) src
@[simp] theorem State.writeMeetsEntry_latch (s : State) (l : Line) (src : Source) :
    (s.writeMeetsEntry l).latch src = s.latch src := State.latch_congr (s.writeMeetsEntry_fl l) src
@[simp] theorem State.writeMeetsEntry_flushOrder (s : State) (l : Line) (src : Source) :
    (s.writeMeetsEntry l).flushOrder src = s.flushOrder src := State.flushOrder_congr (s.writeMeetsEntry_fl l) src
@[simp] theorem State.writeMeetsEntry_holdingOf (s : State) (l : Line) (src : Source) :
    (s.writeMeetsEntry l).holdingOf src = s.holdingOf src := State.holdingOf_congr (s.writeMeetsEntry_tt l) src
@[simp] theorem State.writeMeetsEntry_meterOf (s : State) (l : Line) (src : Source) :
    (s.writeMeetsEntry l).meterOf src = s.meterOf src := State.meterOf_congr (s.writeMeetsEntry_meter l) src
@[simp] theorem State.writeMeetsEntry_counter (s : State) (l : Line) (c : Counter) :
    (s.writeMeetsEntry l).counter c = s.counter c := State.counter_congr (s.writeMeetsEntry_mgmt l) c

/-! ### What `State.freeHeld` leaves -/

theorem State.freeHeld_frame (s : State) :
    s.freeHeld.hport = s.hport ∧ s.freeHeld.adm = s.adm ∧ s.freeHeld.tt = s.tt ∧ s.freeHeld.mb = s.mb
      ∧ s.freeHeld.fl = s.fl ∧ s.freeHeld.mport = s.mport ∧ s.freeHeld.resp = s.resp
      ∧ s.freeHeld.meter = s.meter ∧ s.freeHeld.mgmt = s.mgmt ∧ s.freeHeld.pending = s.pending
      ∧ s.freeHeld.choices = s.choices := by
  simp [State.freeHeld]
@[simp] theorem State.freeHeld_hport (s : State) : s.freeHeld.hport = s.hport := s.freeHeld_frame.1
@[simp] theorem State.freeHeld_adm (s : State) : s.freeHeld.adm = s.adm := s.freeHeld_frame.2.1
@[simp] theorem State.freeHeld_tt (s : State) : s.freeHeld.tt = s.tt := s.freeHeld_frame.2.2.1
@[simp] theorem State.freeHeld_mb (s : State) : s.freeHeld.mb = s.mb := s.freeHeld_frame.2.2.2.1
@[simp] theorem State.freeHeld_fl (s : State) : s.freeHeld.fl = s.fl := s.freeHeld_frame.2.2.2.2.1
@[simp] theorem State.freeHeld_mport (s : State) : s.freeHeld.mport = s.mport := s.freeHeld_frame.2.2.2.2.2.1
@[simp] theorem State.freeHeld_resp (s : State) : s.freeHeld.resp = s.resp := s.freeHeld_frame.2.2.2.2.2.2.1
@[simp] theorem State.freeHeld_meter (s : State) : s.freeHeld.meter = s.meter := s.freeHeld_frame.2.2.2.2.2.2.2.1
@[simp] theorem State.freeHeld_mgmt (s : State) : s.freeHeld.mgmt = s.mgmt := s.freeHeld_frame.2.2.2.2.2.2.2.2.1
@[simp] theorem State.freeHeld_pending (s : State) : s.freeHeld.pending = s.pending :=
    s.freeHeld_frame.2.2.2.2.2.2.2.2.2.1
@[simp] theorem State.freeHeld_choices (s : State) : s.freeHeld.choices = s.choices :=
    s.freeHeld_frame.2.2.2.2.2.2.2.2.2.2
@[simp] theorem State.freeHeld_slot (s : State) (i : SlotId) :
    s.freeHeld.slot i = s.slot i := State.slot_congr (s.freeHeld_tt ) i
@[simp] theorem State.freeHeld_buffer (s : State) (b : BufferId) :
    s.freeHeld.buffer b = s.buffer b := State.buffer_congr (s.freeHeld_mb ) b
@[simp] theorem State.freeHeld_record (s : State) (src : Source) :
    s.freeHeld.record src = s.record src := State.record_congr (s.freeHeld_resp ) src
@[simp] theorem State.freeHeld_latch (s : State) (src : Source) :
    s.freeHeld.latch src = s.latch src := State.latch_congr (s.freeHeld_fl ) src
@[simp] theorem State.freeHeld_flushOrder (s : State) (src : Source) :
    s.freeHeld.flushOrder src = s.flushOrder src := State.flushOrder_congr (s.freeHeld_fl ) src
@[simp] theorem State.freeHeld_holdingOf (s : State) (src : Source) :
    s.freeHeld.holdingOf src = s.holdingOf src := State.holdingOf_congr (s.freeHeld_tt ) src
@[simp] theorem State.freeHeld_meterOf (s : State) (src : Source) :
    s.freeHeld.meterOf src = s.meterOf src := State.meterOf_congr (s.freeHeld_meter ) src
@[simp] theorem State.freeHeld_counter (s : State) (c : Counter) :
    s.freeHeld.counter c = s.counter c := State.counter_congr (s.freeHeld_mgmt ) c

/-! ### What `State.holdEntry` leaves -/

theorem State.holdEntry_frame (s : State) (k : EntryId) (x : Line) (p : Source) (d : LineData) :
    (s.holdEntry k x p d).hport = s.hport ∧ (s.holdEntry k x p d).adm = s.adm ∧ (s.holdEntry k x p d).tt = s.tt
      ∧ (s.holdEntry k x p d).mb = s.mb ∧ (s.holdEntry k x p d).fl = s.fl
      ∧ (s.holdEntry k x p d).mport = s.mport ∧ (s.holdEntry k x p d).resp = s.resp
      ∧ (s.holdEntry k x p d).meter = s.meter ∧ (s.holdEntry k x p d).mgmt = s.mgmt
      ∧ (s.holdEntry k x p d).pending = s.pending ∧ (s.holdEntry k x p d).choices = s.choices := by
  unfold State.holdEntry; (repeat' split) <;> simp
@[simp] theorem State.holdEntry_hport (s : State) (k : EntryId) (x : Line) (p : Source) (d : LineData) : (s.holdEntry k x p d).hport = s.hport :=
    (s.holdEntry_frame k x p d).1
@[simp] theorem State.holdEntry_adm (s : State) (k : EntryId) (x : Line) (p : Source) (d : LineData) : (s.holdEntry k x p d).adm = s.adm :=
    (s.holdEntry_frame k x p d).2.1
@[simp] theorem State.holdEntry_tt (s : State) (k : EntryId) (x : Line) (p : Source) (d : LineData) : (s.holdEntry k x p d).tt = s.tt :=
    (s.holdEntry_frame k x p d).2.2.1
@[simp] theorem State.holdEntry_mb (s : State) (k : EntryId) (x : Line) (p : Source) (d : LineData) : (s.holdEntry k x p d).mb = s.mb :=
    (s.holdEntry_frame k x p d).2.2.2.1
@[simp] theorem State.holdEntry_fl (s : State) (k : EntryId) (x : Line) (p : Source) (d : LineData) : (s.holdEntry k x p d).fl = s.fl :=
    (s.holdEntry_frame k x p d).2.2.2.2.1
@[simp] theorem State.holdEntry_mport (s : State) (k : EntryId) (x : Line) (p : Source) (d : LineData) : (s.holdEntry k x p d).mport = s.mport :=
    (s.holdEntry_frame k x p d).2.2.2.2.2.1
@[simp] theorem State.holdEntry_resp (s : State) (k : EntryId) (x : Line) (p : Source) (d : LineData) : (s.holdEntry k x p d).resp = s.resp :=
    (s.holdEntry_frame k x p d).2.2.2.2.2.2.1
@[simp] theorem State.holdEntry_meter (s : State) (k : EntryId) (x : Line) (p : Source) (d : LineData) : (s.holdEntry k x p d).meter = s.meter :=
    (s.holdEntry_frame k x p d).2.2.2.2.2.2.2.1
@[simp] theorem State.holdEntry_mgmt (s : State) (k : EntryId) (x : Line) (p : Source) (d : LineData) : (s.holdEntry k x p d).mgmt = s.mgmt :=
    (s.holdEntry_frame k x p d).2.2.2.2.2.2.2.2.1
@[simp] theorem State.holdEntry_pending (s : State) (k : EntryId) (x : Line) (p : Source) (d : LineData) : (s.holdEntry k x p d).pending = s.pending :=
    (s.holdEntry_frame k x p d).2.2.2.2.2.2.2.2.2.1
@[simp] theorem State.holdEntry_choices (s : State) (k : EntryId) (x : Line) (p : Source) (d : LineData) : (s.holdEntry k x p d).choices = s.choices :=
    (s.holdEntry_frame k x p d).2.2.2.2.2.2.2.2.2.2
@[simp] theorem State.holdEntry_slot (s : State) (k : EntryId) (x : Line) (p : Source) (d : LineData) (i : SlotId) :
    (s.holdEntry k x p d).slot i = s.slot i := State.slot_congr (s.holdEntry_tt k x p d) i
@[simp] theorem State.holdEntry_buffer (s : State) (k : EntryId) (x : Line) (p : Source) (d : LineData) (b : BufferId) :
    (s.holdEntry k x p d).buffer b = s.buffer b := State.buffer_congr (s.holdEntry_mb k x p d) b
@[simp] theorem State.holdEntry_record (s : State) (k : EntryId) (x : Line) (p : Source) (d : LineData) (src : Source) :
    (s.holdEntry k x p d).record src = s.record src := State.record_congr (s.holdEntry_resp k x p d) src
@[simp] theorem State.holdEntry_latch (s : State) (k : EntryId) (x : Line) (p : Source) (d : LineData) (src : Source) :
    (s.holdEntry k x p d).latch src = s.latch src := State.latch_congr (s.holdEntry_fl k x p d) src
@[simp] theorem State.holdEntry_flushOrder (s : State) (k : EntryId) (x : Line) (p : Source) (d : LineData) (src : Source) :
    (s.holdEntry k x p d).flushOrder src = s.flushOrder src := State.flushOrder_congr (s.holdEntry_fl k x p d) src
@[simp] theorem State.holdEntry_holdingOf (s : State) (k : EntryId) (x : Line) (p : Source) (d : LineData) (src : Source) :
    (s.holdEntry k x p d).holdingOf src = s.holdingOf src := State.holdingOf_congr (s.holdEntry_tt k x p d) src
@[simp] theorem State.holdEntry_meterOf (s : State) (k : EntryId) (x : Line) (p : Source) (d : LineData) (src : Source) :
    (s.holdEntry k x p d).meterOf src = s.meterOf src := State.meterOf_congr (s.holdEntry_meter k x p d) src
@[simp] theorem State.holdEntry_counter (s : State) (k : EntryId) (x : Line) (p : Source) (d : LineData) (c : Counter) :
    (s.holdEntry k x p d).counter c = s.counter c := State.counter_congr (s.holdEntry_mgmt k x p d) c

/-! ### What `State.sealFilling` leaves -/

theorem State.sealFilling_frame (s : State) :
    s.sealFilling.hport = s.hport ∧ s.sealFilling.adm = s.adm ∧ s.sealFilling.tt = s.tt
      ∧ s.sealFilling.mb = s.mb ∧ s.sealFilling.fl = s.fl ∧ s.sealFilling.es = s.es
      ∧ s.sealFilling.mport = s.mport ∧ s.sealFilling.resp.rq = s.resp.rq
      ∧ s.sealFilling.resp.credits = s.resp.credits ∧ s.sealFilling.meter = s.meter
      ∧ s.sealFilling.mgmt = s.mgmt ∧ s.sealFilling.pending = s.pending ∧ s.sealFilling.choices = s.choices := by
  unfold State.sealFilling
  generalize sources = l
  exact ⟨foldl_keeps (fun t : State => t.hport) _ (by intro t x; simp) _ _,
    foldl_keeps (fun t : State => t.adm) _ (by intro t x; simp) _ _,
    foldl_keeps (fun t : State => t.tt) _ (by intro t x; simp) _ _,
    foldl_keeps (fun t : State => t.mb) _ (by intro t x; simp) _ _,
    foldl_keeps (fun t : State => t.fl) _ (by intro t x; simp) _ _,
    foldl_keeps (fun t : State => t.es) _ (by intro t x; simp) _ _,
    foldl_keeps (fun t : State => t.mport) _ (by intro t x; simp) _ _,
    foldl_keeps (fun t : State => t.resp.rq) _ (by intro t x; simp) _ _,
    foldl_keeps (fun t : State => t.resp.credits) _ (by intro t x; simp) _ _,
    foldl_keeps (fun t : State => t.meter) _ (by intro t x; simp) _ _,
    foldl_keeps (fun t : State => t.mgmt) _ (by intro t x; simp) _ _,
    foldl_keeps (fun t : State => t.pending) _ (by intro t x; simp) _ _,
    foldl_keeps (fun t : State => t.choices) _ (by intro t x; simp) _ _⟩
@[simp] theorem State.sealFilling_hport (s : State) : s.sealFilling.hport = s.hport := s.sealFilling_frame.1
@[simp] theorem State.sealFilling_adm (s : State) : s.sealFilling.adm = s.adm := s.sealFilling_frame.2.1
@[simp] theorem State.sealFilling_tt (s : State) : s.sealFilling.tt = s.tt := s.sealFilling_frame.2.2.1
@[simp] theorem State.sealFilling_mb (s : State) : s.sealFilling.mb = s.mb := s.sealFilling_frame.2.2.2.1
@[simp] theorem State.sealFilling_fl (s : State) : s.sealFilling.fl = s.fl := s.sealFilling_frame.2.2.2.2.1
@[simp] theorem State.sealFilling_es (s : State) : s.sealFilling.es = s.es := s.sealFilling_frame.2.2.2.2.2.1
@[simp] theorem State.sealFilling_mport (s : State) : s.sealFilling.mport = s.mport :=
    s.sealFilling_frame.2.2.2.2.2.2.1
@[simp] theorem State.sealFilling_resp_rq (s : State) : s.sealFilling.resp.rq = s.resp.rq :=
    s.sealFilling_frame.2.2.2.2.2.2.2.1
@[simp] theorem State.sealFilling_resp_credits (s : State) : s.sealFilling.resp.credits = s.resp.credits :=
    s.sealFilling_frame.2.2.2.2.2.2.2.2.1
@[simp] theorem State.sealFilling_meter (s : State) : s.sealFilling.meter = s.meter :=
    s.sealFilling_frame.2.2.2.2.2.2.2.2.2.1
@[simp] theorem State.sealFilling_mgmt (s : State) : s.sealFilling.mgmt = s.mgmt :=
    s.sealFilling_frame.2.2.2.2.2.2.2.2.2.2.1
@[simp] theorem State.sealFilling_pending (s : State) : s.sealFilling.pending = s.pending :=
    s.sealFilling_frame.2.2.2.2.2.2.2.2.2.2.2.1
@[simp] theorem State.sealFilling_choices (s : State) : s.sealFilling.choices = s.choices :=
    s.sealFilling_frame.2.2.2.2.2.2.2.2.2.2.2.2
@[simp] theorem State.sealFilling_slot (s : State) (i : SlotId) :
    s.sealFilling.slot i = s.slot i := State.slot_congr (s.sealFilling_tt ) i
@[simp] theorem State.sealFilling_buffer (s : State) (b : BufferId) :
    s.sealFilling.buffer b = s.buffer b := State.buffer_congr (s.sealFilling_mb ) b
@[simp] theorem State.sealFilling_entry (s : State) (e : EntryId) :
    s.sealFilling.entry e = s.entry e := State.entry_congr (s.sealFilling_es ) e
@[simp] theorem State.sealFilling_latch (s : State) (src : Source) :
    s.sealFilling.latch src = s.latch src := State.latch_congr (s.sealFilling_fl ) src
@[simp] theorem State.sealFilling_flushOrder (s : State) (src : Source) :
    s.sealFilling.flushOrder src = s.flushOrder src := State.flushOrder_congr (s.sealFilling_fl ) src
@[simp] theorem State.sealFilling_holdingOf (s : State) (src : Source) :
    s.sealFilling.holdingOf src = s.holdingOf src := State.holdingOf_congr (s.sealFilling_tt ) src
@[simp] theorem State.sealFilling_meterOf (s : State) (src : Source) :
    s.sealFilling.meterOf src = s.meterOf src := State.meterOf_congr (s.sealFilling_meter ) src
@[simp] theorem State.sealFilling_counter (s : State) (c : Counter) :
    s.sealFilling.counter c = s.counter c := State.counter_congr (s.sealFilling_mgmt ) c

/-! ### What `State.sealOpen` leaves -/

theorem State.sealOpen_frame (s : State) (x : SealCause) :
    (s.sealOpen x).hport = s.hport ∧ (s.sealOpen x).adm = s.adm ∧ (s.sealOpen x).tt = s.tt
      ∧ (s.sealOpen x).mb.ageOrder = s.mb.ageOrder ∧ (s.sealOpen x).fl = s.fl ∧ (s.sealOpen x).es = s.es
      ∧ (s.sealOpen x).mport.up = s.mport.up ∧ (s.sealOpen x).mport.credits = s.mport.credits
      ∧ (s.sealOpen x).mport.outstanding = s.mport.outstanding
      ∧ (s.sealOpen x).mport.orphaned = s.mport.orphaned ∧ (s.sealOpen x).mport.sent = s.mport.sent
      ∧ (s.sealOpen x).mport.restarts = s.mport.restarts ∧ (s.sealOpen x).resp = s.resp
      ∧ (s.sealOpen x).meter = s.meter ∧ (s.sealOpen x).mgmt.regs = s.mgmt.regs
      ∧ (s.sealOpen x).mgmt.quiesce = s.mgmt.quiesce ∧ (s.sealOpen x).mgmt.quietStatus = s.mgmt.quietStatus
      ∧ (s.sealOpen x).mgmt.notices = s.mgmt.notices ∧ (s.sealOpen x).mgmt.lost = s.mgmt.lost
      ∧ (s.sealOpen x).mgmt.time = s.mgmt.time ∧ (s.sealOpen x).mgmt.subTime = s.mgmt.subTime
      ∧ (s.sealOpen x).mgmt.irqLine = s.mgmt.irqLine ∧ (s.sealOpen x).mgmt.readData = s.mgmt.readData
      ∧ (s.sealOpen x).pending = s.pending ∧ (s.sealOpen x).choices = s.choices := by
  simp [State.sealOpen]
@[simp] theorem State.sealOpen_hport (s : State) (x : SealCause) : (s.sealOpen x).hport = s.hport :=
    (s.sealOpen_frame x).1
@[simp] theorem State.sealOpen_adm (s : State) (x : SealCause) : (s.sealOpen x).adm = s.adm := (s.sealOpen_frame x).2.1
@[simp] theorem State.sealOpen_tt (s : State) (x : SealCause) : (s.sealOpen x).tt = s.tt := (s.sealOpen_frame x).2.2.1
@[simp] theorem State.sealOpen_mb_ageOrder (s : State) (x : SealCause) : (s.sealOpen x).mb.ageOrder = s.mb.ageOrder :=
    (s.sealOpen_frame x).2.2.2.1
@[simp] theorem State.sealOpen_fl (s : State) (x : SealCause) : (s.sealOpen x).fl = s.fl :=
    (s.sealOpen_frame x).2.2.2.2.1
@[simp] theorem State.sealOpen_es (s : State) (x : SealCause) : (s.sealOpen x).es = s.es :=
    (s.sealOpen_frame x).2.2.2.2.2.1
@[simp] theorem State.sealOpen_mport_up (s : State) (x : SealCause) : (s.sealOpen x).mport.up = s.mport.up :=
    (s.sealOpen_frame x).2.2.2.2.2.2.1
@[simp] theorem State.sealOpen_mport_credits (s : State) (x : SealCause) : (s.sealOpen x).mport.credits = s.mport.credits :=
    (s.sealOpen_frame x).2.2.2.2.2.2.2.1
@[simp] theorem State.sealOpen_mport_outstanding (s : State) (x : SealCause) : (s.sealOpen x).mport.outstanding = s.mport.outstanding :=
    (s.sealOpen_frame x).2.2.2.2.2.2.2.2.1
@[simp] theorem State.sealOpen_mport_orphaned (s : State) (x : SealCause) : (s.sealOpen x).mport.orphaned = s.mport.orphaned :=
    (s.sealOpen_frame x).2.2.2.2.2.2.2.2.2.1
@[simp] theorem State.sealOpen_mport_sent (s : State) (x : SealCause) : (s.sealOpen x).mport.sent = s.mport.sent :=
    (s.sealOpen_frame x).2.2.2.2.2.2.2.2.2.2.1
@[simp] theorem State.sealOpen_mport_restarts (s : State) (x : SealCause) : (s.sealOpen x).mport.restarts = s.mport.restarts :=
    (s.sealOpen_frame x).2.2.2.2.2.2.2.2.2.2.2.1
@[simp] theorem State.sealOpen_resp (s : State) (x : SealCause) : (s.sealOpen x).resp = s.resp :=
    (s.sealOpen_frame x).2.2.2.2.2.2.2.2.2.2.2.2.1
@[simp] theorem State.sealOpen_meter (s : State) (x : SealCause) : (s.sealOpen x).meter = s.meter :=
    (s.sealOpen_frame x).2.2.2.2.2.2.2.2.2.2.2.2.2.1
@[simp] theorem State.sealOpen_mgmt_regs (s : State) (x : SealCause) : (s.sealOpen x).mgmt.regs = s.mgmt.regs :=
    (s.sealOpen_frame x).2.2.2.2.2.2.2.2.2.2.2.2.2.2.1
@[simp] theorem State.sealOpen_mgmt_quiesce (s : State) (x : SealCause) : (s.sealOpen x).mgmt.quiesce = s.mgmt.quiesce :=
    (s.sealOpen_frame x).2.2.2.2.2.2.2.2.2.2.2.2.2.2.2.1
@[simp] theorem State.sealOpen_mgmt_quietStatus (s : State) (x : SealCause) : (s.sealOpen x).mgmt.quietStatus = s.mgmt.quietStatus :=
    (s.sealOpen_frame x).2.2.2.2.2.2.2.2.2.2.2.2.2.2.2.2.1
@[simp] theorem State.sealOpen_mgmt_notices (s : State) (x : SealCause) : (s.sealOpen x).mgmt.notices = s.mgmt.notices :=
    (s.sealOpen_frame x).2.2.2.2.2.2.2.2.2.2.2.2.2.2.2.2.2.1
@[simp] theorem State.sealOpen_mgmt_lost (s : State) (x : SealCause) : (s.sealOpen x).mgmt.lost = s.mgmt.lost :=
    (s.sealOpen_frame x).2.2.2.2.2.2.2.2.2.2.2.2.2.2.2.2.2.2.1
@[simp] theorem State.sealOpen_mgmt_time (s : State) (x : SealCause) : (s.sealOpen x).mgmt.time = s.mgmt.time :=
    (s.sealOpen_frame x).2.2.2.2.2.2.2.2.2.2.2.2.2.2.2.2.2.2.2.1
@[simp] theorem State.sealOpen_mgmt_subTime (s : State) (x : SealCause) : (s.sealOpen x).mgmt.subTime = s.mgmt.subTime :=
    (s.sealOpen_frame x).2.2.2.2.2.2.2.2.2.2.2.2.2.2.2.2.2.2.2.2.1
@[simp] theorem State.sealOpen_mgmt_irqLine (s : State) (x : SealCause) : (s.sealOpen x).mgmt.irqLine = s.mgmt.irqLine :=
    (s.sealOpen_frame x).2.2.2.2.2.2.2.2.2.2.2.2.2.2.2.2.2.2.2.2.2.1
@[simp] theorem State.sealOpen_mgmt_readData (s : State) (x : SealCause) : (s.sealOpen x).mgmt.readData = s.mgmt.readData :=
    (s.sealOpen_frame x).2.2.2.2.2.2.2.2.2.2.2.2.2.2.2.2.2.2.2.2.2.2.1
@[simp] theorem State.sealOpen_pending (s : State) (x : SealCause) : (s.sealOpen x).pending = s.pending :=
    (s.sealOpen_frame x).2.2.2.2.2.2.2.2.2.2.2.2.2.2.2.2.2.2.2.2.2.2.2.1
@[simp] theorem State.sealOpen_choices (s : State) (x : SealCause) : (s.sealOpen x).choices = s.choices :=
    (s.sealOpen_frame x).2.2.2.2.2.2.2.2.2.2.2.2.2.2.2.2.2.2.2.2.2.2.2.2
@[simp] theorem State.sealOpen_slot (s : State) (x : SealCause) (i : SlotId) :
    (s.sealOpen x).slot i = s.slot i := State.slot_congr (s.sealOpen_tt x) i
@[simp] theorem State.sealOpen_entry (s : State) (x : SealCause) (e : EntryId) :
    (s.sealOpen x).entry e = s.entry e := State.entry_congr (s.sealOpen_es x) e
@[simp] theorem State.sealOpen_record (s : State) (x : SealCause) (src : Source) :
    (s.sealOpen x).record src = s.record src := State.record_congr (s.sealOpen_resp x) src
@[simp] theorem State.sealOpen_latch (s : State) (x : SealCause) (src : Source) :
    (s.sealOpen x).latch src = s.latch src := State.latch_congr (s.sealOpen_fl x) src
@[simp] theorem State.sealOpen_flushOrder (s : State) (x : SealCause) (src : Source) :
    (s.sealOpen x).flushOrder src = s.flushOrder src := State.flushOrder_congr (s.sealOpen_fl x) src
@[simp] theorem State.sealOpen_holdingOf (s : State) (x : SealCause) (src : Source) :
    (s.sealOpen x).holdingOf src = s.holdingOf src := State.holdingOf_congr (s.sealOpen_tt x) src
@[simp] theorem State.sealOpen_meterOf (s : State) (x : SealCause) (src : Source) :
    (s.sealOpen x).meterOf src = s.meterOf src := State.meterOf_congr (s.sealOpen_meter x) src

end Sys2Proof.Machine
end

