-- ==== Sys2Proof/Laws/Ops.lean ====
section
/-! SUPPORT. What each shared operation of Machine/Flags.lean and Machine/Ops.lean does to what it touches, said once; what
it leaves is in Laws/Frames.lean. -/

namespace Sys2Proof.Machine

/-! ## Folds over the records of a table -/

/-- A fold that changes one record at a time, each by a function of that record, changes each record of its list so. -/
theorem foldl_pointwise {α β : Type} [DecidableEq α] (get : State → α → β) (g : State → α → State) (D : α → β → β)
    (h : ∀ s i j, get (g s i) j = if j = i then D i (get s i) else get s j) (l : List α) (hnd : l.Nodup) (s : State)
    (j : α) : get (l.foldl g s) j = if j ∈ l then D j (get s j) else get s j := by
  induction l generalizing s with
  | nil => simp
  | cons i l ih =>
    obtain ⟨hi, hnd⟩ := List.nodup_cons.mp hnd
    rw [List.foldl_cons, ih hnd, h]
    by_cases e : j = i
    · subst e; simp [hi]
    · simp [e]

/-- What holds before a fold and is kept by each of its steps holds after it. -/
theorem foldl_invariant {α β : Type} (P : β → Prop) (g : β → α → β) (h : ∀ s x, P s → P (g s x)) (l : List α) (s : β)
    (hs : P s) : P (l.foldl g s) := by
  induction l generalizing s with
  | nil => exact hs
  | cons x l ih => exact ih _ (h s x hs)

/-! ## Dtags -/

@[simp] theorem toNat_slotDtag (i : SlotId) : (slotDtag i).toNat = i.val := by
  simp [slotDtag]; omega
@[simp] theorem toNat_bufferDtag (b : BufferId) : (bufferDtag b).toNat = 48 + b.val := by
  simp [bufferDtag]; omega
@[simp] theorem toNat_entryDtag (e : EntryId) : (entryDtag e).toNat = 64 + e.val := by
  simp [entryDtag]; omega

@[simp] theorem dtagOwner_slotDtag (i : SlotId) : dtagOwner (slotDtag i) = some (.slot i) := by
  have := i.isLt
  simp [dtagOwner, this]
@[simp] theorem dtagOwner_bufferDtag (b : BufferId) : dtagOwner (bufferDtag b) = some (.buffer b) := by
  have := b.isLt
  simp [dtagOwner, this]
@[simp] theorem dtagOwner_entryDtag (e : EntryId) : dtagOwner (entryDtag e) = some (.entry e) := by
  have := e.isLt
  have h : ¬(64 + e.val - 48 < 16) := by omega
  have h' : ¬(64 + e.val < 48) := by omega
  simp [dtagOwner, h, h']

/-! ## The IRQ line and the notice log -/

/-- A notice that finds room is appended, and the IRQ line follows it if the log was empty. -/
theorem State.logNotice_of_room {s : State} (n : Notice) (h : s.mgmt.notices.length < 16) :
    s.logNotice n = { s with mgmt := { s.mgmt with
      notices := s.mgmt.notices ++ [n]
      irqLine := if s.mgmt.notices = [] then
          kindEnabled s.mgmt.regs.irqEnable n.kind || (s.mgmt.quietStatus && s.mgmt.regs.irqEnable.getLsbD 31)
        else s.mgmt.irqLine } } := by
  unfold State.logNotice
  cases hn : s.mgmt.notices with
  | nil => simp [State.refreshIrq, State.irqLevel]
  | cons m rest =>
    have h' : rest.length + 1 < 16 := by simpa [hn] using h
    simp [h']

/-- A notice that finds the log full is lost. -/
theorem State.logNotice_of_full {s : State} (n : Notice) (h : 16 ≤ s.mgmt.notices.length) :
    s.logNotice n = State.bump { s with mgmt.lost := true } .noticesLost := by
  unfold State.logNotice
  simp [Nat.not_lt.mpr h]

/-! ## The quiet condition -/

theorem State.quietCondition_congr {s t : State} (h1 : t.tt.slots = s.tt.slots) (h2 : t.mb.buffers = s.mb.buffers)
    (h3 : t.es = s.es) (h4 : t.mport.iq = s.mport.iq) (h5 : t.resp.records = s.resp.records)
    (h6 : t.resp.rrl = s.resp.rrl) : t.quietCondition = s.quietCondition := by
  simp [State.quietCondition, State.slot, State.buffer, State.entry, State.record, h1, h2, h3, h4, h5, h6]

/-- A slot that is not FREE holds off the quiet condition. -/
theorem State.quietCondition_of_slot {s : State} {i : SlotId} (h : s.slot i ≠ none) : s.quietCondition = false := by
  have h' : (slotIds.all fun i => (s.slot i).isNone) = false := by
    rw [List.all_eq_false]
    exact ⟨i, mem_slotIds i, by simpa using h⟩
  simp [State.quietCondition, h']

/-- A buffer that is not FREE holds off the quiet condition. -/
theorem State.quietCondition_of_buffer {s : State} {b : BufferId} (h : s.buffer b ≠ none) : s.quietCondition = false := by
  have h' : (bufferIds.all fun b => (s.buffer b).isNone) = false := by
    rw [List.all_eq_false]
    exact ⟨b, mem_bufferIds b, by simpa using h⟩
  simp [State.quietCondition, h']

/-- An entry that is not FREE holds off the quiet condition. -/
theorem State.quietCondition_of_entry {s : State} {e : EntryId} (h : s.entry e ≠ none) : s.quietCondition = false := by
  have h' : (entryIds.all fun e => (s.entry e).isNone) = false := by
    rw [List.all_eq_false]
    exact ⟨e, mem_entryIds e, by simpa using h⟩
  simp [State.quietCondition, h']

theorem State.checkQuiet_of_false {s : State} (h : s.quietCondition = false) : s.checkQuiet = s := by
  simp [State.checkQuiet, h]

theorem State.checkQuiet_of_not_draining {s : State} (h : s.mgmt.quiesce ≠ .draining) : s.checkQuiet = s := by
  simp [State.checkQuiet, h]

theorem State.checkQuiet_of_not {s : State} (h : ¬(s.mgmt.quiesce = .draining ∧ s.quietCondition = true)) :
    s.checkQuiet = s := by
  simp only [State.checkQuiet]; split
  · next h' => exact absurd (by simpa using h') h
  · rfl

/-! ## Latches -/

theorem State.latch_setLatches (s : State) (l : List Source) (src : Source) :
    (s.setLatches l).latch src = (l.contains src || s.latch src) := by
  unfold State.setLatches
  induction l generalizing s with
  | nil => simp
  | cons x l ih =>
    rw [List.foldl_cons, ih]
    by_cases h : src = x <;> simp [h]

/-! ## Slots -/

@[simp] theorem State.slot_freeSlot (s : State) (i j : SlotId) :
    (s.freeSlot i).slot j = if j = i then none else s.slot j := by
  unfold State.freeSlot
  split
  · next h => split
              · next h' => subst h'; exact h
              · rfl
  · simp [State.slot, State.dtagFree, tget_tset]

/-- Freeing a slot gives back its charge and lowers its source's holding count. -/
theorem State.freeSlot_of_some {s : State} {i : SlotId} {sl : Slot} (h : s.slot i = some sl) :
    s.freeSlot i = State.dtagFree { s with
      tt.slots := tset s.tt.slots i none
      tt.charges := s.tt.charges.modify (· - 1) sl.pool
      tt.holding := tset s.tt.holding sl.source (s.holdingOf sl.source - 1) } (slotDtag i) := by
  simp [State.freeSlot, h]

theorem State.freeSlot_of_none {s : State} {i : SlotId} (h : s.slot i = none) : s.freeSlot i = s := by
  simp [State.freeSlot, h]

theorem State.setCourse_of_read {s : State} {i : SlotId} {src tag charge line detached course}
    (h : s.slot i = some ⟨src, tag, charge, .read line detached course⟩) (c : ReadCourse) :
    s.setCourse i c = s.setSlot i (some ⟨src, tag, charge, .read line detached c⟩) := by
  simp [State.setCourse, h]

theorem State.slot_setCourse_of_ne (s : State) {i j : SlotId} (c : ReadCourse) (h : j ≠ i) :
    (s.setCourse i c).slot j = s.slot j := by
  unfold State.setCourse; split <;> simp [h]

/-- A waiting read becomes READY at the IQ tail. -/
theorem State.becomeReady_of_waiting {s : State} {i : SlotId} {src tag charge line detached course}
    (h : s.slot i = some ⟨src, tag, charge, .read line detached course⟩) (hw : course.isWaiting = true) :
    s.becomeReady i = (s.setSlot i (some ⟨src, tag, charge, .read line detached .ready⟩)).pushIq (.slot i) := by
  simp [State.becomeReady, h, hw, State.setCourse]

theorem State.slot_becomeReady_of_ne (s : State) {i j : SlotId} (h : j ≠ i) : (s.becomeReady i).slot j = s.slot j := by
  unfold State.becomeReady; split
  · split <;> simp [State.slot_setCourse_of_ne _ _ h]
  · rfl

/-- A read that waits for data and is not detached becomes RETURNED at the RRL tail. -/
theorem State.becomeReturned_of_kept {s : State} {i : SlotId} {src tag charge line course} (r : ReadResult) (o : Bool)
    (h : s.slot i = some ⟨src, tag, charge, .read line false course⟩) (hw : course.isFetching = true) :
    s.becomeReturned i r o
      = (s.setSlot i (some ⟨src, tag, charge, .read line false (.returned r o)⟩)).pushRrl (.slot i) := by
  simp [State.becomeReturned, h, hw, State.setCourse]

/-- A detached read that waits for data becomes FREE, or ORPHANED while its late answer is due. -/
theorem State.becomeReturned_of_detached {s : State} {i : SlotId} {src tag charge line course} (r : ReadResult) (o : Bool)
    (h : s.slot i = some ⟨src, tag, charge, .read line true course⟩) (hw : course.isFetching = true) :
    s.becomeReturned i r o
      = if o then s.setSlot i (some ⟨src, tag, charge, .read line true .orphaned⟩) else s.freeSlot i := by
  simp [State.becomeReturned, h, hw, State.setCourse]

theorem State.slot_becomeReturned_of_ne (s : State) {i j : SlotId} (r : ReadResult) (o : Bool) (h : j ≠ i) :
    (s.becomeReturned i r o).slot j = s.slot j := by
  unfold State.becomeReturned; split
  · split
    · rfl
    · split
      · simp [State.slot_setCourse_of_ne _ _ h]
      · split
        · exact State.slot_setCourse_of_ne _ _ h
        · simp [h]
  · rfl

/-- Reads woken together become READY, each once, and join the IQ in list order. -/
theorem State.wakeReads_of_waiting (s : State) (l : List SlotId) (hnd : l.Nodup)
    (hw : ∀ i ∈ l, ∃ src tag charge line detached course,
      s.slot i = some ⟨src, tag, charge, .read line detached course⟩ ∧ course.isWaiting = true) :
    (s.wakeReads l).mport.iq = s.mport.iq ++ l.map IqRef.slot
      ∧ (∀ j, j ∉ l → (s.wakeReads l).slot j = s.slot j)
      ∧ ∀ j ∈ l, ∀ src tag charge line detached course,
        s.slot j = some ⟨src, tag, charge, .read line detached course⟩ →
          (s.wakeReads l).slot j = some ⟨src, tag, charge, .read line detached .ready⟩ := by
  unfold State.wakeReads
  induction l generalizing s with
  | nil => simp
  | cons i l ih =>
    obtain ⟨hi, hnd⟩ := List.nodup_cons.mp hnd
    obtain ⟨src, tag, charge, line, detached, course, hs, hc⟩ := hw i (by simp)
    have hne : ∀ j ∈ l, j ≠ i := fun j hj e => hi (e ▸ hj)
    obtain ⟨h1, h2, h3⟩ := ih (s.becomeReady i) hnd (by
      intro j hj
      rw [State.slot_becomeReady_of_ne s (hne j hj)]
      exact hw j (by simp [hj]))
    rw [List.foldl_cons]
    refine ⟨?_, ?_, ?_⟩
    · rw [h1, State.becomeReady_of_waiting hs hc]; simp
    · intro j hj
      simp only [List.mem_cons, not_or] at hj
      rw [h2 j hj.2, State.slot_becomeReady_of_ne s hj.1]
    · intro j hj src' tag' charge' line' detached' course' hs'
      rcases List.mem_cons.mp hj with rfl | hj
      · rw [h2 j hi, State.becomeReady_of_waiting hs hc]
        simp only [hs, Option.some.injEq, Slot.mk.injEq, SlotBody.read.injEq] at hs'
        obtain ⟨rfl, rfl, rfl, rfl, rfl, rfl⟩ := hs'
        simp
      · exact h3 j hj _ _ _ _ _ _ ((State.slot_becomeReady_of_ne s (hne j hj)).trans hs')

/-- Every MERGED slot of the buffer becomes FREE, and no other slot changes. -/
theorem State.slot_freeMerged (s : State) (b : BufferId) (j : SlotId) :
    (s.freeMerged b).slot j = if mergedInto b (s.slot j) = true then none else s.slot j := by
  unfold State.freeMerged
  rw [foldl_pointwise (fun s i => s.slot i) _ (fun _ x => if mergedInto b x = true then none else x) _ _ slotIds_nodup]
  · simp [mem_slotIds]
  · intro t i k
    by_cases h : mergedInto b (t.slot i) = true <;> by_cases e : k = i <;> simp [h, e]

/-! ## Bundle records -/

theorem State.sealRecord_of_filling {s : State} {src acks hold} (h : s.record src = .filling acks hold) :
    s.sealRecord src = (s.setRecord src (.sealed acks)).pushRrl (.record src) := by
  simp [State.sealRecord, h]

theorem State.sealRecord_of_not_filling {s : State} {src} (h : ∀ acks hold, s.record src ≠ .filling acks hold) :
    s.sealRecord src = s := by
  unfold State.sealRecord; split
  · next acks hold h' => exact absurd h' (h acks hold)
  · rfl
  · rfl

theorem State.record_sealRecord_of_ne (s : State) {src src' : Source} (h : src' ≠ src) :
    (s.sealRecord src).record src' = s.record src' := by
  unfold State.sealRecord; split <;> simp [h]

theorem State.record_addAck_of_ne (s : State) {src src' : Source} (a : Ack) (h : src' ≠ src) :
    (s.addAck src a).record src' = s.record src' := by
  unfold State.addAck; split
  · dsimp only; split <;> simp [State.record_sealRecord_of_ne, h]
  · dsimp only; split <;> simp [State.record_sealRecord_of_ne, h]
  · rfl

/-! ## Sealing -/

/-- The line-clear rule for a SEALED, unqueued buffer. -/
theorem State.offerBuffer_of_unqueued {s : State} {b line merged openedAt reads c cause w}
    (h : s.buffer b = some ⟨line, merged, openedAt, reads, .sealed c cause false w⟩) :
    s.offerBuffer b
      = if s.lineClear b line then
          (s.setBuffer b (some ⟨line, merged, openedAt, reads, .sealed c cause true w⟩)).pushIq (.buffer b)
        else s := by
  simp [State.offerBuffer, h]

/-- A buffer's own record is no part of whether its line is clear. -/
theorem State.lineClear_congr {s t : State} {b : BufferId} (h : ∀ b', b' ≠ b → t.buffer b' = s.buffer b') (l : Line) :
    t.lineClear b l = s.lineClear b l := by
  unfold State.lineClear
  rw [Bool.eq_iff_iff]
  simp only [List.all_eq_true, State.bufferHas]
  constructor <;> intro h' b' hb' <;> have := h' b' hb' <;> by_cases e : b' = b <;> simp_all

/-- The seal of an OPEN buffer: its cause and counter, and its place in the IQ if its line is clear. -/
theorem State.sealBuffer_of_open {s : State} {b line merged openedAt reads c age} (cause : SealCause)
    (h : s.buffer b = some ⟨line, merged, openedAt, reads, .opened c age⟩) :
    s.sealBuffer b cause
      = if s.lineClear b line then
          ((s.setBuffer b (some ⟨line, merged, openedAt, reads, .sealed c cause true []⟩)).bump
            (.seals cause)).pushIq (.buffer b)
        else (s.setBuffer b (some ⟨line, merged, openedAt, reads, .sealed c cause false []⟩)).bump (.seals cause) := by
  have hb : ((s.setBuffer b (some ⟨line, merged, openedAt, reads, .sealed c cause false []⟩)).bump
      (.seals cause)).buffer b = some ⟨line, merged, openedAt, reads, .sealed c cause false []⟩ := by simp
  have hl : ((s.setBuffer b (some ⟨line, merged, openedAt, reads, .sealed c cause false []⟩)).bump
      (.seals cause)).lineClear b line = s.lineClear b line :=
    State.lineClear_congr (fun b' hb' => by simp [hb']) line
  simp only [State.sealBuffer, h, State.offerBuffer_of_unqueued hb, hl]
  split
  · simp [State.setBuffer, State.bump, State.pushIq, State.counter, tset]
  · rfl

theorem State.sealBuffer_of_not_open {s : State} {b} (cause : SealCause)
    (h : ∀ x ∈ s.buffer b, x.isOpen = false) : s.sealBuffer b cause = s := by
  unfold State.sealBuffer; split
  · next h' => exact absurd (h _ h') (by simp [Buffer.isOpen])
  · rfl

theorem State.buffer_offerBuffer_of_ne (s : State) {b b' : BufferId} (h : b' ≠ b) :
    (s.offerBuffer b).buffer b' = s.buffer b' := by
  unfold State.offerBuffer; split
  · split <;> simp [h]
  · rfl

theorem State.buffer_sealBuffer_of_ne (s : State) {b b' : BufferId} (cause : SealCause) (h : b' ≠ b) :
    (s.sealBuffer b cause).buffer b' = s.buffer b' := by
  unfold State.sealBuffer; split
  · simp [State.buffer_offerBuffer_of_ne _ h, h]
  · rfl

end Sys2Proof.Machine
end

