-- ==== Sys2Proof/Laws/Safety.lean ====
section
/-! SUPPORT. What the predicates and the readings of Safety.lean say of a state, the resource step of admission, what 10 ns do
to each record, and when the two commands of the sample timer take effect. -/

namespace Sys2Proof.Machine

/-! ## The end of a happening -/

theorem State.settled_of_not {s : State} {quiet : Bool} (h : ¬(s.mgmt.quiesce = .draining ∧ quiet = true)) :
    s.settled quiet = s := by
  simp only [State.settled, if_neg h]

theorem State.settled_of_draining {s : State} (h : s.mgmt.quiesce = .draining) : s.settled true = s.enterQuiet := by
  simp [State.settled, h]

theorem State.checkQuiet_eq_settled (s : State) : s.checkQuiet = s.settled s.quietCondition := by
  simp [State.checkQuiet, State.settled]

/-- The management block that a notice leaves depends on the management block alone. -/
theorem State.mgmt_logNotice_congr {s t : State} (n : Notice) (h : s.mgmt = t.mgmt) :
    (s.logNotice n).mgmt = (t.logNotice n).mgmt := by
  obtain ⟨_, _, _, _, _, _, _, _, _, _, _, _⟩ := s
  obtain ⟨_, _, _, _, _, _, _, _, _, _, _, _⟩ := t
  subst h
  unfold State.logNotice
  split <;> [split <;> rfl; rfl]

/-- So does the one that the end of a happening leaves. -/
theorem State.mgmt_settled_congr {s t : State} (quiet : Bool) (h : s.mgmt = t.mgmt) :
    (s.settled quiet).mgmt = (t.settled quiet).mgmt := by
  obtain ⟨_, _, _, _, _, _, _, _, _, _, _, _⟩ := s
  obtain ⟨_, _, _, _, _, _, _, _, _, _, _, _⟩ := t
  subst h
  unfold State.settled
  split
  · exact State.mgmt_logNotice_congr _ rfl
  · rfl

@[simp] theorem State.quietCondition_checkQuiet (s : State) : s.checkQuiet.quietCondition = s.quietCondition :=
  State.quietCondition_congr (by simp) (by simp) (by simp) (by simp) (by simp) (by simp)

/-- The management block after a happening, read from the quiet condition of the state it leaves. -/
theorem State.mgmt_checkQuiet (s : State) : s.checkQuiet.mgmt = (s.settled s.checkQuiet.quietCondition).mgmt := by
  rw [State.quietCondition_checkQuiet, State.checkQuiet_eq_settled]

/-! ## Seals -/

theorem State.mem_sealsQueued {s : State} {p : Buffer → Bool} {r : IqRef} :
    r ∈ s.sealsQueued p
      ↔ ∃ b x, r = .buffer b ∧ s.buffer b = some x ∧ x.isOpen = true ∧ p x = true ∧ s.lineClear b x.line = true := by
  simp only [State.sealsQueued, List.mem_map, List.mem_filter, mem_bufferIds, true_and, Option.any_eq_true,
    Bool.and_eq_true]
  constructor
  · rintro ⟨b, ⟨x, hx, ⟨ho, hp⟩, hc⟩, rfl⟩; exact ⟨b, x, rfl, hx, ho, hp, hc⟩
  · rintro ⟨b, x, rfl, hx, ho, hp, hc⟩; exact ⟨b, ⟨x, hx, ⟨ho, hp⟩, hc⟩, rfl⟩

/-! ## Flushes -/

theorem State.completesOn_iff {s : State} {flushes : List SlotId} {i : SlotId} :
    s.completesOn flushes i = true
      ↔ i ∈ flushes ∧ ∃ src tag charge, s.slot i = some ⟨src, tag, charge, .flush 1⟩
        ∧ (s.flushOrder src).head? = some i ∧ (s.record src).isSealed = false := by
  unfold State.completesOn
  split
  · next src tag charge h =>
    simp only [Bool.and_eq_true, Bool.not_eq_true', List.contains_iff_mem, beq_iff_eq, h, Option.some.injEq,
      Slot.mk.injEq]
    constructor
    · rintro ⟨⟨hi, ho⟩, hr⟩; exact ⟨hi, src, tag, charge, ⟨rfl, rfl, rfl, trivial⟩, ho, hr⟩
    · rintro ⟨hi, _, _, _, ⟨rfl, rfl, rfl, -⟩, ho, hr⟩; exact ⟨⟨hi, ho⟩, hr⟩
  · next h =>
    simp only [Bool.false_eq_true, false_iff, not_and, not_exists]
    intro _ src tag charge hs
    exact absurd hs (h src tag charge)

/-! ## Admission -/

/-- The first number with a property is the lowest one that has it. -/
theorem find?_finRange_eq_some {n : Nat} {p : Fin n → Bool} {i : Fin n} :
    (List.finRange n).find? p = some i ↔ p i = true ∧ ∀ j, j < i → p j = false := by
  rw [List.find?_eq_some_iff_getElem]
  constructor
  · rintro ⟨hp, k, hk, rfl, h⟩
    refine ⟨hp, fun j hj => ?_⟩
    have := h j.val (by simpa [Fin.lt_def] using hj)
    simpa using this
  · rintro ⟨hp, h⟩
    exact ⟨hp, i.val, by simp, by simp, fun j hj => by simpa using h ⟨j, by omega⟩ hj⟩

theorem State.freeSlot?_eq_some {s : State} {i : SlotId} :
    s.freeSlot? = some i ↔ s.slot i = none ∧ ∀ j, j < i → s.slot j ≠ none := by
  unfold State.freeSlot? slotIds
  simp [find?_finRange_eq_some, ← Option.ne_none_iff_isSome]

theorem State.freeSlot?_eq_none {s : State} : s.freeSlot? = none ↔ ∀ i, s.slot i ≠ none := by
  simp [State.freeSlot?, mem_slotIds]

theorem State.mustRetry_iff {s : State} {src : Source} : s.mustRetry src = true ↔ s.overLimit src := by
  unfold State.mustRetry State.overLimit
  cases (s.meterOf src).state <;> simp [MeterState.isThrottled]

/-- The resource step of a head that needs a slot alone. -/
theorem State.slotJudged_admitIfSlot (s : State) (k : RequestKind) :
    s.slotJudged (s.tt.charges.of (reserveOf k)) (poolSize (reserveOf k)) (s.admitIfSlot k) := by
  refine ⟨fun h => ?_, fun h1 h2 => ?_, fun i hi hlow => ?_⟩
  · simp [State.admitIfSlot, State.slotFor, State.freeSlot?_eq_none.mpr h]
  · have hc : s.chargeFor k = none := by
      simp [State.chargeFor, Nat.not_lt.mpr h1, Nat.not_lt.mpr h2]
    simp only [State.admitIfSlot, State.slotFor, hc]
    cases s.freeSlot? <;> rfl
  · have hf := State.freeSlot?_eq_some.mpr ⟨hi, hlow⟩
    refine ⟨fun h => ?_, fun h1 h2 => ?_⟩
    · simp [State.admitIfSlot, State.slotFor, hf, State.chargeFor, h]
    · simp [State.admitIfSlot, State.slotFor, hf, State.chargeFor, Nat.not_lt.mpr h1, h2]

/-! ## The passing of time -/

/-- A step on an empty queue is the passing of 10 ns. -/
theorem step_of_empty {s : State} (h : s.pending = []) : step s = .next s.tick := by
  simp [step, h]

@[simp] theorem State.slot_tick (s : State) (i : SlotId) : s.tick.slot i = (s.slot i).map Slot.tick := by
  simp [State.slot, State.tick, tget, tmap]
@[simp] theorem State.buffer_tick (s : State) (b : BufferId) : s.tick.buffer b = (s.buffer b).map Buffer.tick := by
  simp [State.buffer, State.tick, tget, tmap]
@[simp] theorem State.entry_tick (s : State) (e : EntryId) : s.tick.entry e = (s.entry e).map Entry.tick := by
  simp [State.entry, State.tick, tget, tmap]
@[simp] theorem State.record_tick (s : State) (src : Source) : s.tick.record src = (s.record src).tick := by
  simp [State.record, State.tick, tget, tmap]

/-! ## The meter -/

theorem clamp_range {lo hi n : Nat} (h : lo ≤ hi) : lo ≤ clamp lo hi n ∧ clamp lo hi n ≤ hi := by
  unfold clamp; omega

theorem meterConfOf_inRange (data : RegData) : (meterConfOf data).inRange := by
  have c48 := fun n => clamp_range (n := n) (show 1 ≤ 48 by omega)
  have c15 := fun n => clamp_range (n := n) (show 1 ≤ 15 by omega)
  exact ⟨(c48 _).1, (c48 _).2, (clamp_range (show 0 ≤ 48 by omega)).2, (c15 _).1, (c15 _).2, (c15 _).1, (c15 _).2,
    (c48 _).1, (c48 _).2⟩

/-- SAMPLE takes a sample when the sample timer has run out. -/
theorem execSample_of_due {s : State} (h : s.meter.sampleTimer = 0) : execSample s = .next s.takeSample := by
  simp [execSample, h]

/-- While the sample timer still runs, neither of its commands does anything. -/
theorem execSample_of_running {s : State} (h : s.meter.sampleTimer ≠ 0) :
    execSample s = .next s ∧ execWindowClose s = .next s := by
  simp [execSample, execWindowClose, h]

/-- WINDOW_CLOSE is the sample that fills the window. -/
theorem execWindowClose_of_due {s : State} (h : s.meter.sampleTimer = 0)
    (hw : s.mgmt.regs.meterWindow ≤ s.meter.sampleCount + 1) : execWindowClose s = .next s.takeSample := by
  simp [execWindowClose, h, hw]

end Sys2Proof.Machine
end

