-- ==== Sys2Proof/Tests/Slice0.lean ====
section
/-! SUPPORT. Tests of the model on single steps, each with its expected result from a rule or an example of spec/, and
for every statement with hypotheses the states and operands that meet them all (`test_witness_<statement>`). -/

set_option Elab.async false

open Sys2Proof Sys2Proof.Machine

namespace Sys2Proof.Tests

/-! ## Helpers -/

/-- A line of zero bytes. -/
def zeros : LineData := Vector.replicate 64 0

/-- The payload that supplies the byte `x` at the positions `lo` to `hi`. -/
def bytes (lo hi : Nat) (x : Byte) : Payload :=
  Vector.ofFn fun k => if lo ≤ k.val ∧ k.val ≤ hi then some x else none

/-- The state a command leads to; the state itself where the command stops. -/
def after (c : Instr) (s : State) : State :=
  match exec c s with
  | .next t => t
  | .fault _ => s
  | .refused _ => s

/-- Whether a command answers a next state. -/
def completes (c : Instr) (s : State) : Bool :=
  match exec c s with
  | .next _ => true
  | .fault _ => false
  | .refused _ => false

/-- The part with both links up: 4 credits on each port. -/
def linked : State :=
  { State.reset with
    hport := { State.reset.hport with up := true, readCredits := 8, writeCredits := 8, flushCredits := 4 }
    mport := { State.reset.mport with up := true, credits := 4 }
    resp := { State.reset.resp with credits := 4 } }

/-- A contents of one byte, from one source. -/
def oneByte (src : Source) : Content := ⟨bytes 0 0 7, [src]⟩

/-- A part at work: source 0 has a READY read (slot 0), source 1 a write (slot 1) in the OPEN buffer 0, source 2 a write
(slot 3) in the DRAINING buffer 1 and a flush (slot 2) that waits for it, source 3 a finished read (slot 4), and source 4
a read (slot 5) attached to the entry 1, whose hint fetch has been sent; entry 0 is HELD. -/
def busy : State :=
  { linked with
    tt :=
      { slots := (((((linked.tt.slots.set 0 (some ⟨0, 1, .common, .read 5 false .ready⟩)).set 1
          (some ⟨1, 2, .common, .write 7 true 0⟩)).set 2 (some ⟨2, 3, .common, .flush 1⟩)).set 3
          (some ⟨2, 4, .common, .write 9 true 1⟩)).set 4
          (some ⟨3, 5, .common, .read 11 false (.returned .timeout false)⟩)).set 5
          (some ⟨4, 6, .reserve, .read 21 false (.attached 1)⟩)
        charges := ⟨5, 1, 0, 0⟩
        tagMap := [(0, 1), (1, 2), (2, 3), (3, 5), (4, 6)]
        holding := ((((linked.tt.holding.set 0 1).set 1 1).set 2 2).set 3 1).set 4 1 }
    mb :=
      { buffers := (linked.mb.buffers.set 0 (some ⟨7, 1, 0, [], .opened (oneByte 1) 64⟩)).set 1
          (some ⟨9, 1, 0, [], .draining (oneByte 2) .flush [2] (some 100)⟩)
        ageOrder := [1, 0] }
    fl := { linked.fl with order := linked.fl.order.set 2 [2] }
    es :=
      { entries := (linked.es.entries.set 0 (some ⟨20, 6, .held zeros 800⟩)).set 1
          (some ⟨21, 6, .pending ⟨false, [5], some 100⟩⟩) }
    mport := { linked.mport with iq := [.slot 0], outstanding := [49, 65] }
    resp :=
      { linked.resp with
        records := linked.resp.records.set 1 (.filling [⟨2, .write, .ok⟩] 20)
        rrl := [.slot 4] } }

/-- A part at work with a command waiting. -/
def waiting (c : Instr) : State := { busy with pending := [c] }

/-! ## Well-formedness: each check refuses an ill-formed term -/

theorem test_wellFormed_hGrant_zero : (Instr.hGrant 0).wellFormed = false := by decide
theorem test_wellFormed_hGrant_above : (Instr.hGrant 33).wellFormed = false ∧ (Instr.hGrant 32).wellFormed = true := by
  decide
theorem test_wellFormed_mGrant_above : (Instr.mGrant 33).wellFormed = false ∧ (Instr.mGrant 0).wellFormed = true := by
  decide
theorem test_wellFormed_ownRow : (Instr.registerWrite 2 0).wellFormed = false := by decide
theorem test_wellFormed_meterConf : (Instr.registerWrite 31 0).wellFormed = false := by decide
theorem test_wellFormed_command : (Instr.registerWrite 11 3).wellFormed = false
    ∧ (Instr.registerWrite 11 7).wellFormed = true := by decide

/-! ## Reset, links and time -/

theorem test_coldReset_empties : after .coldReset busy = { State.reset with pending := [] } := by decide +kernel
theorem test_hLinkUp_releases : (after .hLinkUp State.reset).hport.sent.length = 20
    ∧ (after .hLinkUp State.reset).hport.writeCredits = 8 := by decide +kernel
/-- R21: an unanswered read is detached, a finished one and a flush are freed. -/
theorem test_hLinkDown_slots : (after .hLinkDown busy).slot 0 = some ⟨0, 1, .common, .read 5 true .ready⟩
    ∧ (after .hLinkDown busy).slot 2 = none ∧ (after .hLinkDown busy).slot 4 = none := by decide +kernel
theorem test_hLinkReset_restarts : (after .hLinkReset busy).hport.restarts = 1
    ∧ (after .hLinkReset busy).tt.tagMap = [] := by decide +kernel
theorem test_mLinkUp_noCredit : (after .mLinkUp State.reset).mport.up = true
    ∧ (after .mLinkUp State.reset).mport.credits = 0 := by decide +kernel
/-- R45, R59, R53: the DRAINING buffer fails, and the flush over it completes with FAULT. -/
theorem test_mLinkDown_drain : (after .mLinkDown busy).buffer 1 = none
    ∧ (after .mLinkDown busy).counter .drainFaults = 1
    ∧ (after .mLinkDown busy).record 2 = .sealed [⟨3, .flush, .fault⟩] := by decide +kernel
/-- R78, R17: the attached read of a lost hint fetch falls back to the IQ. -/
theorem test_mLinkReset_entry : (after .mLinkReset busy).entry 1 = none
    ∧ (after .mLinkReset busy).mport.iq = [.slot 0, .slot 5] ∧ (after .mLinkReset busy).mport.restarts = 1 := by
  decide +kernel
/-- R167: the time counter counts a microsecond for each 100 passes of 10 ns. -/
theorem test_idle_time :
    State.tick { State.reset with mgmt := { State.reset.mgmt with subTime := 99, time := 4294967295 } }
      = { State.reset with
          mgmt := { State.reset.mgmt with subTime := 0, time := 0 }, meter.sampleTimer := 99 } := by decide +kernel

/-- R167: a step on an empty queue moves the time counter on after the hundredth unit of 10 ns. -/
theorem test_step_idle :
    (match step { State.reset with mgmt.subTime := 99 } with
      | .next t => (t.mgmt.time, t.mgmt.subTime, t.meter.sampleTimer)
      | .fault _ | .refused _ => (0, 0, 0)) = (1, 0, 99) := by decide +kernel

/-! ## Arrivals and Grants -/

/-- R151's example: a Write, a Read and a Flush are stamped in their order of arrival. -/
theorem test_read_stamp : (after (.read 2 9 44) (after (.write 2 8 44 zeros) linked)).hport.readLane = [.read 2 2 9 44]
    ∧ (after (.read 2 9 44) linked).hport.readCredits = 7 := by decide +kernel
theorem test_hint_joins : (after (.hint 3 300) linked).hport.readLane = [.hint 1 3 300] := by decide +kernel
theorem test_write_joins : ((after (.write 1 5 44 zeros) linked).hport.writeLane.map fun w => (isFull w.payload, w.masked))
    = [(true, false)] := by decide +kernel
theorem test_maskedWrite_joins : (after (.maskedWrite 4 1 5000 (bytes 0 7 1)) linked).hport.writeLane
    = [⟨1, 4, 1, 5000, true, bytes 0 7 1⟩] := by decide +kernel

/-- Four Flushes stand in the flush lane. -/
def fullFlushLane : State :=
  { linked with hport := { linked.hport with flushLane := List.replicate 4 ⟨1, 6, 0⟩, flushCredits := 0, arrivals := 4 } }

/-- R152's example: a fifth Flush, of source 6 and tag 12, is discarded. -/
theorem test_flush_overflow : (after (.flush 6 12) fullFlushLane).hport = fullFlushLane.hport
    ∧ (after (.flush 6 12) fullFlushLane).mgmt.notices
      = [⟨.ingressOverflow, 0, some 6, some 12, none, none, none⟩] := by decide +kernel
/-- R130's example: 29 credits and a Grant of 6. -/
theorem test_hGrant_excess :
    (after (.hGrant 6) { linked with resp := { linked.resp with credits := 29 } }).resp.credits = 32
    ∧ ((after (.hGrant 6) { linked with resp := { linked.resp with credits := 29 } }).mgmt.notices.map fun n => n.kind)
      = [.excessGrantH] := by decide +kernel
/-- R107's example: 30 credits and a Grant of 5. -/
theorem test_mGrant_excess :
    (after (.mGrant 5) { linked with mport := { linked.mport with credits := 30 } }).mport.credits = 32
    ∧ ((after (.mGrant 5) { linked with mport := { linked.mport with credits := 30 } }).mgmt.notices.map fun n => n.kind)
      = [.excessGrantM] := by decide +kernel

/-! ## Answers -/

/-- R112's example: a FetchData with a buffer's dtag is stray, and the buffer keeps DRAINING. -/
theorem test_fetchData_stray : (after (.fetchData 49 .ok zeros) busy).buffer 1 = busy.buffer 1
    ∧ (after (.fetchData 49 .ok zeros) busy).mgmt.notices = [⟨.strayResponse, 0, none, none, none, some 49, none⟩]
    ∧ (after (.fetchData 49 .ok zeros) busy).counter .strayResponses = 1 := by decide +kernel
/-- R67: good data serves the attached read and the entry becomes HELD for HINT_LIFE, 8 microseconds. -/
theorem test_fetchData_hint : (after (.fetchData 65 .ok zeros) busy).entry 1 = some ⟨21, 6, .held zeros 800⟩
    ∧ (after (.fetchData 65 .ok zeros) busy).resp.rrl = [.slot 4, .slot 5] := by decide +kernel
/-- R39, R51, R53: the store resolves, its write slot is freed and the flush over it completes with OK. -/
theorem test_storeDone_ok : (after (.storeDone 49 .ok) busy).slot 3 = none
    ∧ (after (.storeDone 49 .ok) busy).slot 2 = none
    ∧ (after (.storeDone 49 .ok) busy).record 2 = .sealed [⟨3, .flush, .ok⟩] := by decide +kernel
/-- R40, R53: the failure reaches the flush of the contributor. -/
theorem test_storeDone_fail : (after (.storeDone 49 .fail) busy).record 2 = .sealed [⟨3, .flush, .fault⟩]
    ∧ (after (.storeDone 49 .fail) busy).latch 2 = false
    ∧ (after (.storeDone 49 .fail) busy).counter .drainFaults = 1 := by decide +kernel

/-! ## The management port -/

/-- R166: an empty log reads 0. -/
theorem test_noticePop_empty : (after .noticePop linked).mgmt.readData = 0 := by decide +kernel
/-- R160, R167: STRAY_RESPONSE is kind 8 with its dtag alone present. -/
theorem test_noticePop_word : (after .noticePop (after (.fetchData 49 .ok zeros) busy)).mgmt.readData
    = BitVec.ofNat 32 (8 + 2 ^ 8 + 49 * 2 ^ 22)
    ∧ (after .noticePop (after (.fetchData 49 .ok zeros) busy)).mgmt.notices = [] := by decide +kernel
theorem test_clearCounters : (after .clearCounters (after (.fetchData 49 .ok zeros) busy)).counter .strayResponses = 0 := by
  decide +kernel
theorem test_clearLost :
    (after .clearLost { linked with mgmt := { linked.mgmt with lost := true } }).mgmt.lost = false := by decide +kernel
/-- R164: the QUIESCE command on an idle part ends in QUIET. -/
theorem test_quiesce_idle : (after .quiesce linked).mgmt.quiesce = .quiet
    ∧ ((after .quiesce linked).mgmt.notices.map fun n => n.kind) = [.quietReached] := by decide +kernel
/-- R36, R77, R124: the OPEN buffer is sealed and queued, the HELD entry freed, the FILLING record sealed. -/
theorem test_quiesce_busy : (after .quiesce busy).mgmt.quiesce = .draining
    ∧ (after .quiesce busy).mport.iq = [.slot 0, .buffer 0] ∧ (after .quiesce busy).entry 0 = none
    ∧ (after .quiesce busy).resp.rrl = [.slot 4, .record 1] := by decide +kernel
theorem test_resume : (after .resume (after .quiesce linked)).mgmt.quiesce = .run
    ∧ (after .resume (after .quiesce linked)).mgmt.quietStatus = false := by decide +kernel
/-- R160's example: 0 to TOP_LINE_HI, then 1,000,000 to TOP_LINE_LO. -/
theorem test_topLine : (after (.topLineLo 1000000) (after (.topLineHi 0) linked)).mgmt.regs.topLine = 1000000
    ∧ (after (.topLineHi 0) linked).mgmt.regs.topLine = linked.mgmt.regs.topLine := by decide +kernel
theorem test_topLine_clamped : (after (.topLineLo 1) linked).mgmt.regs.topLine.toNat = 1099511627776 := by decide +kernel
/-- R36, R31: MERGE_ENABLE off seals the OPEN buffer with DISABLED. -/
theorem test_mergeEnable_off : (after (.mergeEnable 0) busy).buffer 0
    = some ⟨7, 1, 0, [], .sealed (oneByte 1) .disabled true []⟩
    ∧ (after (.mergeEnable 0) busy).counter (.seals .disabled) = 1 := by decide +kernel
/-- R76: HINT_ENABLE off frees the HELD entry and leaves the PENDING one. -/
theorem test_hintEnable_off : (after (.hintEnable 0) busy).entry 0 = none
    ∧ (after (.hintEnable 0) busy).entry 1 = busy.entry 1 := by decide +kernel
theorem test_meterSample_clamped : (after (.meterSample 0) linked).mgmt.regs.meterSample = 1
    ∧ (after (.meterSample 0) linked).meter.sampleTimer = 10 := by decide +kernel
theorem test_meterWindow_clamped : (after (.meterWindow 15) linked).mgmt.regs.meterWindow = 16
    ∧ (after (.meterWindow 4097) linked).mgmt.regs.meterWindow = 4096 := by decide +kernel
/-- R142: floor 3 above ceiling 2 is disabled. R141: floor 2 is enabling and waits. -/
theorem test_meterConf : ((after (.meterConf 5 0x82031101) linked).meterOf 5).conf = ⟨true, 2, 3, 1, 1, 1⟩
    ∧ ((after (.meterConf 5 0x82031101) linked).meterOf 5).state = .off
    ∧ ((after (.meterConf 5 0x82021101) linked).meterOf 5).waiting = some ⟨true, 2, 2, 1, 1, 1⟩ := by decide +kernel
/-- R169: enabling STRAY_RESPONSE, kind 8, raises the line for the oldest notice. -/
theorem test_irqEnable : (after (.irqEnable 0x80) (after (.fetchData 49 .ok zeros) busy)).mgmt.irqLine = true
    ∧ (after (.irqEnable 0x100) (after (.fetchData 49 .ok zeros) busy)).mgmt.irqLine = false := by decide +kernel
/-- R161: MERGE_AGE 0 becomes 1, and its bits above 11 are ignored. -/
theorem test_registerWrite_age : (after (.registerWrite 3 0) linked).mgmt.regs.mergeAge = 1
    ∧ (after (.registerWrite 3 0x1002) linked).mgmt.regs.mergeAge = 2 := by decide +kernel
theorem test_registerWrite_deadline : (after (.registerWrite 7 0) linked).mgmt.regs.deadline = 0
    ∧ (after (.registerWrite 7 65535) linked).mgmt.regs.deadline = 65535 := by decide +kernel
/-- R159: number 11 (00001011), choice 0, data 3, most significant bit first, is QUIESCE. -/
theorem test_transaction_quiesce :
    decodeTransaction ([false, false, false, false, true, false, true, true, false] ++ List.replicate 30 false ++ [true, true])
      = some .quiesce := by decide +kernel
/-- R159: number 43 (00101011) and choice 1 is a read of NOTICE_POP. -/
theorem test_transaction_pop :
    decodeTransaction [false, false, true, false, true, false, true, true, true] = some .noticePop := by decide +kernel

/-! ## Timers -/

/-- `busy` with slot 0 ISSUED: dtag 0 is outstanding. -/
def issued : State :=
  { busy.setSlot 0 (some ⟨0, 1, .common, .read 5 false (.issued (some 7))⟩) with
    mport := { busy.mport with iq := [], outstanding := [0, 49, 65] } }

/-- R13: the read is RETURNED with TIMEOUT and its late answer is due. -/
theorem test_readDeadline : (after (.readDeadline 0) issued).slot 0
    = some ⟨0, 1, .common, .read 5 false (.returned .timeout true)⟩
    ∧ (after (.readDeadline 0) issued).mport.orphaned = [0]
    ∧ (after (.readDeadline 0) issued).resp.rrl = [.slot 4, .slot 0] := by decide +kernel
/-- R41: the buffer is ORPHANED, its write slot is freed and its flush completes with FAULT. -/
theorem test_drainDeadline : (after (.drainDeadline 1) busy).buffer 1 = some ⟨9, 0, 0, [], .orphaned .flush⟩
    ∧ (after (.drainDeadline 1) busy).slot 3 = none
    ∧ (after (.drainDeadline 1) busy).record 2 = .sealed [⟨3, .flush, .fault⟩] := by decide +kernel
/-- R70: the entry is ORPHANED and its attached read falls back. -/
theorem test_fetchDeadline : (after (.fetchDeadline 1) busy).entry 1 = some ⟨21, 6, .orphaned⟩
    ∧ (after (.fetchDeadline 1) busy).mport.iq = [.slot 0, .slot 5] := by decide +kernel
/-- R32: the OPEN buffer is sealed with AGE and, its line being clear, queued. -/
theorem test_ageTimer : (after (.ageTimer 0) busy).buffer 0 = some ⟨7, 1, 0, [], .sealed (oneByte 1) .age true []⟩
    ∧ (after (.ageTimer 0) busy).mport.iq = [.slot 0, .buffer 0] := by decide +kernel
theorem test_lifeTimer : (after (.lifeTimer 0) busy).entry 0 = none := by decide +kernel
theorem test_holdTimer : (after (.holdTimer 1) busy).record 1 = .sealed [⟨2, .write, .ok⟩]
    ∧ (after (.holdTimer 1) busy).resp.rrl = [.slot 4, .record 1] := by decide +kernel

/-- Source 2, which holds 2 slots, is metered with ceiling 1, floor 1, enter 1, exit 1; 15 of 16 samples are taken
and the sample timer has run out. -/
def metered (state : MeterState) (accumulator : Nat) : State :=
  { busy.setMeter 2 ⟨⟨true, 1, 1, 1, 1, 1⟩, none, state, 0, accumulator⟩ with
    meter.sampleTimer := 0, meter.sampleCount := 15, mgmt.regs.meterWindow := 16 }

/-- R137: a sample below the window adds the holding count. -/
theorem test_sample_adds :
    ((after .sample { metered .calm 3 with meter.sampleCount := 14 }).meterOf 2).accumulator = 5 := by decide +kernel
/-- R146: a write that restarts the sample timer takes away the sample and the window close that were due. -/
theorem test_sample_restarted :
    after .sample (after (.meterWindow 16) { metered .calm 3 with meter.sampleCount := 14 })
      = after (.meterWindow 16) { metered .calm 3 with meter.sampleCount := 14 }
    ∧ ((after .windowClose (after (.meterSample 1) (metered .calm 15))).meterOf 2).state = .calm := by decide +kernel
/-- R137, R138: the sixteenth sample makes 17, above 1 x 16: the source is throttled. -/
theorem test_sample_closes : ((after .sample (metered .calm 15)).meterOf 2).state = .throttled
    ∧ ((after .sample (metered .calm 14)).meterOf 2).state = .calm := by decide +kernel
/-- R138: 15 is below 1 x 16, cool, and 16 is neutral. -/
theorem test_windowClose : ((after .windowClose (metered .throttled 13)).meterOf 2).state = .calm
    ∧ ((after .windowClose (metered .throttled 14)).meterOf 2).state = .throttled := by decide +kernel

/-! ## Admission -/

/-- A write at the head of the write lane of a part that is linked and else idle. -/
def oneWrite (w : WriteReq) (s : State) : State :=
  { s with hport := { s.hport with writeLane := [w], writeCredits := 7, arrivals := 9 } }

/-- R26's example: source 4 supplies positions 0 to 7 of line 5000; buffer 0 opens with its age timer at 640 ns. -/
def example26 : State := after .decision (oneWrite ⟨9, 4, 1, 5000, true, bytes 0 7 1⟩ linked)

/-- R27's example: source 9 supplies positions 4 to 11; they replace source 4's bytes there. -/
theorem test_decision_merges :
    (example26.buffer 0 = some ⟨5000, 1, 0, [], .opened ⟨bytes 0 7 1, [4]⟩ 64⟩
      ∧ example26.record 4 = .filling [⟨1, .write, .ok⟩] 20)
    ∧ (after .decision (oneWrite ⟨9, 9, 1, 5000, true, bytes 4 11 2⟩ example26)).buffer 0
      = some ⟨5000, 2, 0, [],
          .opened ⟨Vector.ofFn fun k => if k.val < 4 then some 1 else if k.val < 12 then some 2 else none, [4, 9]⟩ 64⟩ := by
  decide +kernel

/-! ## Departures and entries -/

/-- R103, R11: the read's Fetch departs with dtag 0, and its deadline is 100 microseconds. -/
theorem test_departure : (after .departure busy).mport.sent = [.fetch 0 5]
    ∧ (after .departure busy).slot 0 = some ⟨0, 1, .common, .read 5 false (.issued (some 10000))⟩
    ∧ (after .departure busy).mport.credits = 3 := by decide +kernel
/-- R126, R131: the ReadReturn carries TIMEOUT, the pair is gone and the slot FREE. -/
theorem test_rrlReadEntry : (after .rrlReadEntry busy).resp.rq = [.readReturn 3 5 .timeout]
    ∧ (after .rrlReadEntry busy).slot 4 = none
    ∧ (after .rrlReadEntry busy).tt.tagMap = [(0, 1), (1, 2), (2, 3), (4, 6)] := by decide +kernel

/-- `busy` with the finished read gone and the bundle of source 1 at the RRL head. -/
def bundled : State := after (.holdTimer 1) (after .rrlReadEntry busy)

/-- R127, R132: the Bundle joins the RQ and the record is EMPTY. -/
theorem test_bundleEntry : (after .bundleEntry bundled).resp.rq = [.readReturn 3 5 .timeout, .bundle 1 [⟨2, .write, .ok⟩]]
    ∧ (after .bundleEntry bundled).record 1 = .empty := by decide +kernel
/-- R129: the RQ head is sent and consumes a credit. -/
theorem test_rqDeparture : (after .rqDeparture bundled).hport.sent = [.response (.readReturn 3 5 .timeout)]
    ∧ (after .rqDeparture bundled).resp.credits = 3 := by decide +kernel

/-! ## Every command answers a next state on the part at work -/

theorem test_completes :
    ([.coldReset, .hLinkUp, .hLinkDown, .mLinkUp, .mLinkDown, .read 0 9 1, .hint 0 1, .write 0 9 1 zeros,
        .maskedWrite 0 9 1 (bytes 0 0 0), .flush 0 9, .hGrant 1, .fetchData 65 .poison zeros, .storeDone 49 .ok, .mGrant 1,
        .noticePop, .clearCounters, .clearLost, .quiesce, .resume, .hLinkReset, .mLinkReset, .topLineHi 0, .topLineLo 0,
        .mergeEnable 0, .hintEnable 0, .meterSample 1, .meterWindow 16, .meterConf 3 0, .irqEnable 0, .registerWrite 3 1,
        .readDeadline 0, .drainDeadline 1, .fetchDeadline 1, .ageTimer 0, .lifeTimer 0, .holdTimer 1, .sample, .windowClose,
        .decision, .departure, .rrlReadEntry, .bundleEntry, .rqDeparture] : List Instr).all (fun c => completes c busy)
      = true := by decide +kernel

/-! ## States that meet the hypotheses of the statements

For each statement with hypotheses, a state and operands that meet all of them together, one for each of its clauses, at
the boundary where a clause has one. The statements without hypotheses are EmptyQueuePassesTime's second clause apart:
ColdResetRestoresEveryBlock, ResetMeetsEveryLaw, TransactionSpellsRegisterWrite, NoticePopRemovesOldest's parts and
MeterTimingWriteRestartsWindow. -/

theorem test_witness_StepRunsFrontCommand : (waiting .decision).pending = .decision :: [] := by decide +kernel

theorem test_witness_LinkUpOpensThePort : State.reset.hport.up = false ∧ busy.hport.up = true
    ∧ State.reset.mport.up = false ∧ busy.mport.up = true := by decide +kernel

theorem test_witness_DownPortReceivesNothing : State.reset.hport.up = false ∧ State.reset.mport.up = false := by
  decide +kernel

theorem test_witness_HostLinkLossDetachesReads : busy.hport.up = true
    ∧ (49 : Dtag) ∈ busy.mport.outstanding ∧ 48 ≤ (49 : Dtag).toNat := by decide +kernel

/-- `busy` after the M-port has sent all it can: slot 0 ISSUED and detached, slot 5 ORPHANED, slot 4 with its answer due,
buffer 0 ORPHANED. -/
def lossy : State :=
  { (((busy.setSlot 0 (some ⟨0, 1, .common, .read 5 true (.issued none)⟩)).setSlot 5
      (some ⟨4, 6, .reserve, .read 21 false .orphaned⟩)).setSlot 4
      (some ⟨3, 5, .common, .read 11 false (.returned .timeout true)⟩)).setBuffer 0 (some ⟨7, 0, 0, [], .orphaned .age⟩) with
    mport := { busy.mport with iq := [], outstanding := [0, 49, 65], orphaned := [48, 5, 4] } }

/-- Two flushes of source 2 (slots 2 and 6, in this order) and one of source 3 (slot 7) over the DRAINING buffers 1 (of
sources 2 and 3) and 4 (of source 2), with source 2's record EMPTY and source 3's `r`. A read waits on buffer 4 (slot 8),
behind which the SEALED buffer 5 of its line stands. -/
def flushes (r : BundleRecord) : State :=
  { busy with
    tt.slots := (((busy.tt.slots.set 2 (some ⟨2, 3, .common, .flush 2⟩)).set 6 (some ⟨2, 7, .common, .flush 1⟩)).set 7
      (some ⟨3, 8, .common, .flush 1⟩)).set 8 (some ⟨5, 9, .common, .read 12 false (.waitWrite 4)⟩)
    mb :=
      { buffers := ((busy.mb.buffers.set 1
          (some ⟨9, 1, 0, [], .draining ⟨bytes 0 0 7, [2, 3]⟩ .flush [6, 2, 7] (some 100)⟩)).set 4
          (some ⟨12, 0, 0, [8], .draining (oneByte 2) .age [2] none⟩)).set 5
          (some ⟨12, 0, 0, [], .sealed (oneByte 6) .age false []⟩)
        ageOrder := [1, 0, 4, 5] }
    fl.order := (busy.fl.order.set 2 [2, 6]).set 3 [7]
    resp.records := busy.resp.records.set 3 r }

theorem test_flushes_laws : (flushes .empty).OrderLaw ∧ (flushes .empty).FlushLaw ∧ (flushes .empty).FinishLaw
    ∧ (flushes .empty).WaitLaw ∧ (flushes .empty).LineLaw :=
  ⟨by decide +kernel, by decide +kernel, by decide +kernel, by decide +kernel, by decide +kernel⟩

/-- R22, R45, R51, R59, R115: the loss completes slot 7 over buffer 1 and slot 2 over buffer 4, frees the write slot, wakes
the reads with buffer 5 between, and logs M_LINK_DOWN; slot 6 is counted down to 0 and waits. -/
theorem test_mLinkDown_flushes : (flushes .empty).flushesEndedByLoss = [7, 2]
    ∧ (after .mLinkDown (flushes .empty)).resp.rrl = [.slot 4, .record 3, .record 2]
    ∧ (after .mLinkDown (flushes .empty)).mport.iq = [.slot 0, .slot 8, .buffer 5, .slot 5]
    ∧ (after .mLinkDown (flushes .empty)).slot 6 = some ⟨2, 7, .common, .flush 0⟩
    ∧ (after .mLinkDown (flushes .empty)).slot 3 = none
    ∧ ((after .mLinkDown (flushes .empty)).mgmt.notices.map fun n => n.kind) = [.mLinkDown] := by decide +kernel

theorem test_witness_MemoryLinkLossEndsRequests : (busy.mport.up = true ∧ issued.mport.up = true ∧ lossy.mport.up = true
    ∧ issued.slot 0 = some ⟨0, 1, .common, .read 5 false (.issued (some 7))⟩
    ∧ lossy.slot 0 = some ⟨0, 1, .common, .read 5 true (.issued none)⟩
    ∧ lossy.slot 5 = some ⟨4, 6, .reserve, .read 21 false .orphaned⟩
    ∧ lossy.slot 4 = some ⟨3, 5, .common, .read 11 false (.returned .timeout true)⟩
    ∧ busy.slot 0 = some ⟨0, 1, .common, .read 5 false .ready⟩
    ∧ (busy.buffer 0).any Buffer.isOpen = true ∧ (busy.buffer 1).isSome = true
    ∧ lossy.buffer 0 = some ⟨7, 0, 0, [], .orphaned .age⟩ ∧ (busy.entry 0).any Entry.isHeld = true
    ∧ (busy.entry 1).any Entry.isHeld = false)
    ∧ ((flushes .empty).mport.up = true ∧ (flushes .empty).OrderLaw ∧ (flushes .empty).FlushLaw
      ∧ (flushes .empty).FinishLaw ∧ (flushes .empty).WaitLaw ∧ (flushes .empty).LineLaw)
    ∧ ((flushes .empty).slot 3 = some ⟨2, 4, .common, .write 9 true 1⟩
      ∧ (flushes .empty).slot 1 = some ⟨1, 2, .common, .write 7 true 0⟩
      ∧ (flushes .empty).slot 8 = some ⟨5, 9, .common, .read 12 false (.waitWrite 4)⟩
      ∧ (flushes .empty).slot 5 = some ⟨4, 6, .reserve, .read 21 false (.attached 1)⟩
      ∧ (flushes .empty).buffer 5 = some ⟨12, 0, 0, [], .sealed (oneByte 6) .age false []⟩)
    ∧ ((flushes .empty).slot 2 = some ⟨2, 3, .common, .flush 2⟩ ∧ 2 = ((flushes .empty).failingFor 2).length
      ∧ (flushes .empty).flushOrder 2 = 2 :: [6] ∧ ((flushes .empty).record 2).isSealed = false
      ∧ 6 ∉ (flushes .empty).flushesEndedByLoss ∧ (flushes .empty).slot 6 = some ⟨2, 7, .common, .flush 1⟩
      ∧ (flushes .empty).flushesEndedByLoss.all (fun i => (flushes .empty).sourceOf i != some 1) = true) :=
  ⟨by decide +kernel, ⟨by decide +kernel, test_flushes_laws⟩, by decide +kernel, by decide +kernel⟩

/-- The part linked, with so many requests in each lane. -/
def lanes (r w f : Nat) : State :=
  { linked with hport := { linked.hport with
      readLane := List.replicate r (.hint 1 0 3), writeLane := List.replicate w ⟨1, 0, 0, 3, true, bytes 0 0 0⟩
      flushLane := List.replicate f ⟨1, 0, 0⟩ } }

theorem test_witness_RequestJoinsItsLane : (lanes 7 7 3).hport.up = true ∧ (lanes 7 7 3).hport.readLane.length < 8
    ∧ (lanes 7 7 3).hport.writeLane.length < 8 ∧ (lanes 7 7 3).hport.flushLane.length < 4 := by decide +kernel

theorem test_witness_FullLaneDiscardsRequest : (lanes 8 8 4).hport.up = true ∧ 8 ≤ (lanes 8 8 4).hport.readLane.length
    ∧ 8 ≤ (lanes 8 8 4).hport.writeLane.length ∧ 4 ≤ (lanes 8 8 4).hport.flushLane.length := by decide +kernel

theorem test_witness_GrantRaisesCredits : linked.hport.up = true ∧ linked.mport.up = true
    ∧ linked.resp.credits + 28 ≤ 32 ∧ 32 < linked.resp.credits + 29
    ∧ linked.mport.credits + 28 ≤ 32 ∧ 32 < linked.mport.credits + 29 := by decide +kernel

/-- `issued` with its read detached. -/
def detached : State := issued.setSlot 0 (some ⟨0, 1, .common, .read 5 true (.issued (some 7))⟩)

theorem test_witness_FetchAnswerReturnsRead :
    (issued.mport.up = true ∧ slotDtag 0 ∈ issued.mport.outstanding
      ∧ issued.slot 0 = some ⟨0, 1, .common, .read 5 false (.issued (some 7))⟩)
    ∧ (detached.mport.up = true ∧ slotDtag 0 ∈ detached.mport.outstanding
      ∧ detached.slot 0 = some ⟨0, 1, .common, .read 5 true (.issued (some 7))⟩) := by decide +kernel

/-- R12, R20, R167: a poisoned answer for a detached read is logged with its source, tag, line and dtag, and frees the
slot. -/
theorem test_fetchData_detached_poison : (after (.fetchData 0 .poison zeros) detached).slot 0 = none
    ∧ (after (.fetchData 0 .poison zeros) detached).mgmt.notices
      = [⟨.readPoison, 0, some 0, some 1, some 5, some 0, none⟩] := by decide +kernel

/-- `busy` with entry 1 ORPHANED. -/
def lateHint : State :=
  { busy.setEntry 1 (some ⟨21, 6, .orphaned⟩) with mport := { busy.mport with outstanding := [49], orphaned := [65] } }

theorem test_witness_LateFetchAnswerEndsOrphan : lossy.mport.up = true ∧ lateHint.mport.up = true
    ∧ (slotDtag 4 ∉ lossy.mport.outstanding ∧ slotDtag 4 ∈ lossy.mport.orphaned
      ∧ lossy.slot 4 = some ⟨3, 5, .common, .read 11 false (.returned .timeout true)⟩)
    ∧ (slotDtag 5 ∉ lossy.mport.outstanding ∧ slotDtag 5 ∈ lossy.mport.orphaned
      ∧ lossy.slot 5 = some ⟨4, 6, .reserve, .read 21 false .orphaned⟩)
    ∧ (entryDtag 1 ∉ lateHint.mport.outstanding ∧ entryDtag 1 ∈ lateHint.mport.orphaned
      ∧ lateHint.entry 1 = some ⟨21, 6, .orphaned⟩) := by decide +kernel

/-- `busy` with entry 1 STALE. -/
def staleHint : State := busy.setEntry 1 (some ⟨21, 6, .stale ⟨false, [5], none⟩⟩)

theorem test_witness_EmptyQueuePassesTime : busy.pending = [] ∧ busy.mgmt.subTime < 100
    ∧ ({ busy with mgmt.subTime := 98 } : State).mgmt.subTime < 99
    ∧ 99 ≤ ({ busy with mgmt.subTime := 99 } : State).mgmt.subTime ∧ ({ busy with mgmt.subTime := 99 } : State).pending = []
    ∧ issued.mgmt.subTime < 100 ∧ issued.slot 0 = some ⟨0, 1, .common, .read 5 false (.issued (some 7))⟩
    ∧ (busy.buffer 0 = some ⟨7, 1, 0, [], .opened (oneByte 1) 64⟩
      ∧ busy.buffer 1 = some ⟨9, 1, 0, [], .draining (oneByte 2) .flush [2] (some 100)⟩ ∧ busy.buffer 2 = none
      ∧ (flushes .empty).buffer 4 = some ⟨12, 0, 0, [8], .draining (oneByte 2) .age [2] none⟩
      ∧ (flushes .empty).buffer 5 = some ⟨12, 0, 0, [], .sealed (oneByte 6) .age false []⟩
      ∧ lossy.buffer 0 = some ⟨7, 0, 0, [], .orphaned .age⟩)
    ∧ (busy.entry 0 = some ⟨20, 6, .held zeros 800⟩ ∧ busy.entry 1 = some ⟨21, 6, .pending ⟨false, [5], some 100⟩⟩
      ∧ staleHint.entry 1 = some ⟨21, 6, .stale ⟨false, [5], none⟩⟩ ∧ lateHint.entry 1 = some ⟨21, 6, .orphaned⟩
      ∧ busy.record 1 = .filling [⟨2, .write, .ok⟩] 20 ∧ busy.record 0 = .empty) := by decide +kernel

theorem test_witness_HintFetchServesAttached :
    (busy.mport.up = true ∧ entryDtag 1 ∈ busy.mport.outstanding ∧ busy.WaitLaw
      ∧ busy.entry 1 = some ⟨21, 6, .pending ⟨false, [5], some 100⟩⟩ ∧ busy.mgmt.quiesce ≠ .draining)
    ∧ (staleHint.mport.up = true ∧ entryDtag 1 ∈ staleHint.mport.outstanding ∧ staleHint.WaitLaw
      ∧ staleHint.entry 1 = some ⟨21, 6, .stale ⟨false, [5], none⟩⟩ ∧ staleHint.mgmt.quiesce ≠ .draining) := by
  decide +kernel

theorem test_witness_FailedHintFetchRequeuesReads : busy.WaitLaw ∧ busy.mport.up = true
    ∧ entryDtag 1 ∈ busy.mport.outstanding ∧ busy.mgmt.quiesce ≠ .draining
    ∧ busy.entry 1 = some ⟨21, 6, if false then .stale ⟨false, [5], some 100⟩ else .pending ⟨false, [5], some 100⟩⟩
    ∧ some 100 ≠ (none : Option Ticks)
    ∧ staleHint.WaitLaw ∧ staleHint.entry 1
      = some ⟨21, 6, if true then .stale ⟨false, [5], none⟩ else .pending ⟨false, [5], none⟩⟩ := by decide +kernel

theorem test_witness_StrayAnswerChangesNothingElse : busy.mport.up = true ∧ busy.QuietLaw
    ∧ (48 ≤ (48 : Dtag).toNat ∧ (63 : Dtag).toNat < 64) ∧ 72 ≤ (72 : Dtag).toNat
    ∧ ((64 : Dtag) ∉ busy.mport.outstanding ∧ (64 : Dtag) ∉ busy.mport.orphaned)
    ∧ (47 : Dtag).toNat < 48 ∧ 64 ≤ (64 : Dtag).toNat
    ∧ ((50 : Dtag) ∉ busy.mport.outstanding ∧ (50 : Dtag) ∉ busy.mport.orphaned) := by decide +kernel

/-- `busy` with a read waiting on buffer 1 in slot 0 and a younger SEALED buffer 2 of line 9. -/
def resolving : State :=
  { ((busy.setSlot 0 (some ⟨0, 1, .common, .read 9 false (.waitWrite 1)⟩)).setBuffer 1
      (some ⟨9, 1, 0, [0], .draining (oneByte 2) .flush [2] (some 100)⟩)).setBuffer 2
      (some ⟨9, 1, 0, [], .sealed (oneByte 5) .age false []⟩) with
    mb.ageOrder := [1, 0, 2], mport := { busy.mport with iq := [] } }

/-- R55, R52, R54: of the three flushes on buffer 1's list slot 7 alone completes; slot 6, behind slot 2 in its order, and
slot 7 with its source's record SEALED stay with remaining 0. -/
theorem test_storeDone_flushes : (after (.storeDone 49 .ok) (flushes .empty)).resp.rrl = [.slot 4, .record 3]
    ∧ (after (.storeDone 49 .ok) (flushes .empty)).slot 2 = some ⟨2, 3, .common, .flush 1⟩
    ∧ (after (.storeDone 49 .ok) (flushes .empty)).slot 6 = some ⟨2, 7, .common, .flush 0⟩
    ∧ (after (.storeDone 49 .ok) (flushes (.sealed [⟨1, .write, .ok⟩]))).slot 7 = some ⟨3, 8, .common, .flush 0⟩ := by
  decide +kernel

/-- The flush clauses of a resolution of buffer 1: slot 7 completes, slots 6 and 2 do not, nor slot 7 with its source's record
SEALED. -/
theorem test_flushes_resolution :
    (busy.OrderLaw ∧ busy.FinishLaw) ∧ ((flushes .empty).OrderLaw ∧ (flushes .empty).FlushLaw ∧ (flushes .empty).FinishLaw
      ∧ (flushes .empty).WaitLaw ∧ (flushes .empty).LineLaw)
    ∧ ((flushes .empty).mport.up = true ∧ bufferDtag 1 ∈ (flushes .empty).mport.outstanding
      ∧ (flushes .empty).buffer 1
        = some ⟨9, 1, 0, [], .draining ⟨bytes 0 0 7, [2, 3]⟩ .flush [6, 2, 7] (some 100)⟩)
    ∧ ((flushes .empty).slot 7 = some ⟨3, 8, .common, .flush 1⟩ ∧ (flushes .empty).flushOrder 3 = 7 :: []
      ∧ ((flushes .empty).record 3).isSealed = false)
    ∧ ((flushes .empty).completesOn [6, 2, 7] 6 = false ∧ (flushes .empty).completesOn [6, 2, 7] 2 = false
      ∧ (flushes (.sealed [⟨1, .write, .ok⟩])).completesOn [6, 2, 7] 7 = false
      ∧ (flushes (.sealed [⟨1, .write, .ok⟩])).FinishLaw) :=
  ⟨by decide +kernel, test_flushes_laws, by decide +kernel, by decide +kernel, by decide +kernel⟩

theorem test_witness_StoreDoneResolvesBuffer :
    (resolving.mport.up = true ∧ bufferDtag 1 ∈ resolving.mport.outstanding
      ∧ resolving.LineLaw ∧ resolving.WaitLaw ∧ resolving.FlushLaw)
    ∧ (resolving.buffer 1 = some ⟨9, 1, 0, [0], .draining (oneByte 2) .flush [2] (some 100)⟩
    ∧ mergedInto 1 (resolving.slot 3) = true ∧ resolving.slot 0 = some ⟨0, 1, .common, .read 9 false (.waitWrite 1)⟩)
    ∧ (resolving.slot 2 = some ⟨2, 3, .common, .flush 1⟩ ∧ resolving.flushOrder 2 = 2 :: []
    ∧ (resolving.record 2).isSealed = false ∧ resolving.nextSealed? 9 = some 2)
    ∧ busy.LineLaw ∧ busy.WaitLaw ∧ busy.FlushLaw ∧ busy.nextSealed? 9 = none
    ∧ resolving.OrderLaw ∧ resolving.FinishLaw ∧ (flushes .empty).OrderLaw ∧ (flushes .empty).FinishLaw :=
  ⟨⟨by decide +kernel, by decide +kernel, by decide +kernel, by decide +kernel, by decide +kernel⟩, by decide +kernel,
    by decide +kernel, by decide +kernel, by decide +kernel, by decide +kernel, by decide +kernel, by decide +kernel,
    by decide +kernel, test_flushes_laws.1, test_flushes_laws.2.2.1⟩

theorem test_witness_StoreDoneFailAddsFault : busy.mport.up = true ∧ bufferDtag 1 ∈ busy.mport.outstanding
    ∧ busy.buffer 1 = some ⟨9, 1, 0, [], .draining (oneByte 2) .flush [2] (some 100)⟩ := by decide +kernel

/-- `resolving` with buffer 1 ORPHANED: its write slot is gone, its flush counted down. -/
def lateStore : State :=
  { ((resolving.setBuffer 1 (some ⟨9, 0, 0, [0], .orphaned .flush⟩)).setSlot 3 none).setSlot 2 none with
    mport := { resolving.mport with outstanding := [65], orphaned := [49] } }

theorem test_witness_LateStoreDoneFreesBuffer : lateStore.mport.up = true ∧ bufferDtag 1 ∉ lateStore.mport.outstanding
    ∧ bufferDtag 1 ∈ lateStore.mport.orphaned ∧ lateStore.LineLaw ∧ lateStore.WaitLaw
    ∧ lateStore.buffer 1 = some ⟨9, 0, 0, [0], .orphaned .flush⟩ ∧ lateStore.nextSealed? 9 = some 2
    ∧ lateStore.mgmt.quiesce ≠ .draining := by decide +kernel

/-- The part linked, with so many notices in the log. -/
def logged (n : Nat) : State :=
  { linked with mgmt := { linked.mgmt with notices := List.replicate n ⟨.excessGrantH, 0, none, none, none, none, none⟩ } }

theorem test_witness_NoticeIsAppendedOrLost : (logged 15).mgmt.notices.length < 16 ∧ (logged 0).mgmt.notices = []
    ∧ 16 ≤ (logged 16).mgmt.notices.length := by decide +kernel

theorem test_witness_NoticePopRemovesOldest : (logged 0).mgmt.notices = []
    ∧ (logged 1).mgmt.notices = ⟨.excessGrantH, 0, none, none, none, none, none⟩ :: [] := by decide +kernel

/-- `busy` with the controller DRAINING. -/
def draining : State := { busy with mgmt := { busy.mgmt with quiesce := .draining } }

theorem test_witness_QuiesceClosesThePart : busy.mgmt.quiesce = .run ∧ draining.mgmt.quiesce ≠ .run
    ∧ (after .quiesce linked).quietCondition = true ∧ (after .quiesce busy).quietCondition = false
    ∧ busy.LineLaw ∧ (draining.mgmt.quiesce = .draining ∧ draining.mgmt.notices.length < 16)
    ∧ ({ draining with mgmt.notices := (logged 16).mgmt.notices } : State).mgmt.quiesce = .draining
    ∧ 16 ≤ (logged 16).mgmt.notices.length := by decide +kernel

theorem test_witness_ClearAndResumeCommands : busy.mgmt.quiesce = .run ∧ draining.mgmt.quiesce ≠ .run := by decide +kernel

theorem test_witness_RegisterWriteSetsField : 12 ≤ (12 : BitVec 8).toNat ∧ (15 : BitVec 8).toNat < 16
    ∧ 32 ≤ (32 : BitVec 8).toNat ∧ (256 : RegData).toNat % 2 ^ 8 = 0 ∧ (0x101 : RegData).toNat % 2 ^ 8 = 1 ∧ (6 : RegData).toNat % 2 ^ 8 = 6 ∧ 6 < (7 : RegData).toNat % 2 ^ 8 := by decide +kernel

theorem test_witness_TransactionSpellsRegisterWrite : (List.replicate 31 true).length < 32 := by decide

theorem test_witness_MergeEnableSealsWhenOff : (1 : RegData).getLsbD 0 = true ∧ (2 : RegData).getLsbD 0 = false
    ∧ busy.mgmt.regs.mergeEnable = true ∧ busy.LineLaw ∧ (busy.buffer 0).any Buffer.isOpen = true
    ∧ (after (.mergeEnable 0) busy).mgmt.regs.mergeEnable = false := by decide +kernel

theorem test_witness_HintEnableFreesHeldWhenOff : (1 : RegData).getLsbD 0 = true ∧ (2 : RegData).getLsbD 0 = false
    ∧ busy.mgmt.regs.hintEnable = true ∧ busy.mgmt.quiesce ≠ .draining
    ∧ draining.mgmt.regs.hintEnable = true ∧ draining.mgmt.quiesce = .draining
    ∧ (after (.hintEnable 0) busy).mgmt.regs.hintEnable = false := by decide +kernel

theorem test_witness_MeterConfWaitsOrDisables :
    ((⟨true, 2, 2, 1, 1, 1⟩ : MeterConf).enabled = true ∧ (⟨true, 2, 2, 1, 1, 1⟩ : MeterConf).floor ≤ 2
      ∧ meterConfOf 0x82021101 = ⟨true, 2, 2, 1, 1, 1⟩)
    ∧ (meterConfOf 0x82031101).ceiling < (meterConfOf 0x82031101).floor
    ∧ ((metered .throttled 0).meterOf 2).state = .throttled ∧ ((metered .cooling 0).meterOf 2).state = .cooling
    ∧ ((metered .calm 0).meterOf 2).state ≠ .throttled ∧ ((metered .calm 0).meterOf 2).state ≠ .cooling := by decide +kernel

theorem test_witness_RegisterReadShowsState : busy.ChargesLaw ∧ busy.LimitLaw ∧ (logged 16).ChargesLaw
    ∧ (logged 16).LimitLaw ∧ (logged 16).mgmt.notices ≠ [] ∧ busy.mgmt.notices = []
    ∧ 12 ≤ (12 : BitVec 8).toNat ∧ 38 ≤ (38 : BitVec 8).toNat ∧ 44 ≤ (44 : BitVec 8).toNat ∧ 86 ≤ (86 : BitVec 8).toNat := by
  decide +kernel

theorem test_witness_ReadDeadlineReturnsTimeout :
    issued.slot 0 = some ⟨0, 1, .common, .read 5 false (.issued (some 7))⟩
    ∧ detached.slot 0 = some ⟨0, 1, .common, .read 5 true (.issued (some 7))⟩
    ∧ lossy.slot 0 = some ⟨0, 1, .common, .read 5 true (.issued none)⟩ ∧ linked.slot 47 = none := by decide +kernel

theorem test_witness_DrainDeadlineOrphansBuffer : busy.FlushLaw
    ∧ busy.buffer 1 = some ⟨9, 1, 0, [], .draining (oneByte 2) .flush [2] (some 100)⟩
    ∧ mergedInto 1 (busy.slot 3) = true ∧ busy.slot 2 = some ⟨2, 3, .common, .flush 1⟩
    ∧ busy.flushOrder 2 = 2 :: [] ∧ (busy.record 2).isSealed = false ∧ busy.OrderLaw ∧ busy.FinishLaw
    ∧ (flushes .empty).FlushLaw ∧ (flushes .empty).OrderLaw ∧ (flushes .empty).FinishLaw
    ∧ (flushes .empty).buffer 1
      = some ⟨9, 1, 0, [], .draining ⟨bytes 0 0 7, [2, 3]⟩ .flush [6, 2, 7] (some 100)⟩ :=
  ⟨by decide +kernel, by decide +kernel, by decide +kernel, by decide +kernel, by decide +kernel, by decide +kernel,
    by decide +kernel, by decide +kernel, test_flushes_laws.2.1, test_flushes_laws.1, test_flushes_laws.2.2.1,
    by decide +kernel⟩

/-- `resolving` with an OPEN buffer 3 for line 9 as well. -/
def opened : State := resolving.setBuffer 3 (some ⟨9, 0, 0, [], .opened (oneByte 5) 0⟩)

theorem test_witness_AgeTimerSealsBuffer :
    (busy.buffer 0 = some ⟨7, 1, 0, [], .opened (oneByte 1) 64⟩ ∧ busy.lineClear 0 7 = true)
    ∧ (opened.buffer 3 = some ⟨9, 0, 0, [], .opened (oneByte 5) 0⟩ ∧ opened.lineClear 3 9 = false)
    ∧ (∀ x ∈ busy.buffer 1, x.isOpen = false) := by decide +kernel

theorem test_witness_LifeAndHoldTimersEnd : busy.entry 0 = some ⟨20, 6, .held zeros 800⟩ ∧ busy.QuietLaw
    ∧ (∀ x ∈ busy.entry 1, x.isHeld = false) ∧ busy.record 1 = .filling [⟨2, .write, .ok⟩] 20
    ∧ busy.record 0 = .empty := by decide +kernel

theorem test_witness_SampleAddsHolding :
    (metered .calm 3).meter.sampleTimer = 0 ∧ 0 < busy.meter.sampleTimer ∧ busy.RangeLaw
    ∧ ({ metered .calm 3 with meter.sampleCount := 14 } : State).meter.sampleCount + 1
      < (metered .calm 3).mgmt.regs.meterWindow
    ∧ (metered .calm 3).mgmt.regs.meterWindow ≤ (metered .calm 3).meter.sampleCount + 1 := by decide +kernel

/-- A metered source with enter and exit 3, in a window that the next sample closes. -/
def runs (state : MeterState) (streak accumulator : Nat) : State :=
  (metered state 0).setMeter 2 ⟨⟨true, 1, 1, 3, 3, 1⟩, some ⟨true, 9, 1, 1, 1, 9⟩, state, streak, accumulator⟩

theorem test_witness_WindowCloseJudgesSources :
    (metered .calm 15).meter.sampleTimer = 0
    ∧ (metered .calm 15).mgmt.regs.meterWindow ≤ (metered .calm 15).meter.sampleCount + 1
    ∧ (metered .calm 15).mgmt.notices.length ≤ 16
    ∧ ((after .windowClose (metered .calm 15)).mgmt.notices = [⟨.throttleOn, 0, some 2, none, none, none, none⟩]
      ∧ (after .windowClose { metered .calm 15 with mgmt.notices := (logged 16).mgmt.notices }).mgmt.lost = true
      ∧ (after .windowClose { metered .calm 15 with mgmt.notices := (logged 16).mgmt.notices }).counter .noticesLost = 1)
    ∧ ((after .windowClose (metered .calm 15)).meterOf 2).state = .throttled
    ∧ ((after .windowClose (runs .calm 0 15)).meterOf 2).state = .warm
    ∧ ((after .windowClose (metered .calm 14)).meterOf 2).state = .calm
    ∧ ((after .windowClose (runs .warm 2 15)).meterOf 2).state = .throttled
    ∧ ((after .windowClose (runs .warm 1 15)).meterOf 2).streak = 2
    ∧ ((after .windowClose (runs .warm 1 14)).meterOf 2).state = .calm
    ∧ ((after .windowClose (metered .throttled 13)).meterOf 2).state = .calm
    ∧ ((after .windowClose (runs .throttled 0 13)).meterOf 2).state = .cooling
    ∧ ((after .windowClose (runs .throttled 0 14)).meterOf 2).state = .throttled
    ∧ ((after .windowClose (runs .cooling 2 13)).meterOf 2).state = .calm
    ∧ ((after .windowClose (runs .cooling 1 13)).meterOf 2).streak = 2
    ∧ ((after .windowClose (runs .cooling 1 14)).meterOf 2).state = .throttled
    ∧ ((after .windowClose (runs .off 0 0)).meterOf 2).state = .calm := by decide +kernel

/-- A part with one Read, one Hint or one Flush at a lane head. -/
def oneRead (src : Source) (tag : Tag) (l : Line) (s : State) : State :=
  { s with hport := { s.hport with readLane := [.read 9 src tag l], readCredits := 7, arrivals := 9 } }
def oneHint (l : Line) (s : State) : State :=
  { s with hport := { s.hport with readLane := [.hint 9 5 l], readCredits := 7, arrivals := 9 } }
def oneFlush (src : Source) (tag : Tag) (s : State) : State :=
  { s with hport := { s.hport with flushLane := [⟨9, src, tag⟩], flushCredits := 3, arrivals := 9 } }

theorem test_witness_ServedHeadLeavesLane :
    ((oneRead 0 9 30 busy).mgmt.quiesce = .run ∧ (oneRead 0 9 30 busy).pick = some (.read, .admits 6 .common))
    ∧ (oneWrite ⟨9, 4, 1, 5000, true, bytes 0 7 1⟩ busy).pick = some (.write, .admits 6 .common)
    ∧ (oneFlush 2 9 busy).pick = some (.flush, .admits 6 .common) := by decide +kernel

/-- A Read of line 44, a Write of it and a Flush of its source, with the stamps given. -/
def guarded (r w f : Nat) : State :=
  { linked with hport := { linked.hport with
      readLane := [.read r 3 1 44], writeLane := [⟨w, 5, 2, 44, false, bytes 0 63 0⟩], flushLane := [⟨f, 5, 3⟩] } }

theorem test_witness_RoundRobinServesFirstServable :
    (guarded 9 7 8).judge .read = .waits ∧ (guarded 7 9 8).judge .write = .waits ∧ (guarded 7 8 9).judge .flush = .waits
    ∧ (guarded 9 7 6).pick = some (.write, .admits 0 .common) ∧ draining.mgmt.quiesce ≠ .run
    ∧ (busy.mgmt.quiesce = .run ∧ busy.pick = none ∧ busy.judge .write ≠ .wantsBuffer) := by decide +kernel

/-- `s` with so many slots charged to the common pool and to each reserve. -/
def charged (common reserve : Nat) (s : State) : State := { s with tt.charges := ⟨common, reserve, reserve, reserve⟩ }

/-- R87, R89, R91: each outcome of the judgement of a Read that the guard does not hold, at the boundary of its check. -/
theorem test_witness_RoundRobin_read : let s := { metered .throttled 0 with mgmt.regs.topLine := 30 }
    ((oneRead 0 9 30 s).judge .read = .waits ∧ (oneRead 0 9 30 { s with resp.rrl := [] }).judge .read
      = .serves (.reject .outOfRange))
    ∧ (oneRead 0 1 29 { s with resp.rrl := [] }).judge .read = .serves (.reject .duplicateTag)
    ∧ ((oneRead 2 9 29 s).overLimit 2 ∧ (oneRead 2 9 29 { s with resp.rrl := [] }).judge .read = .serves .retry)
    ∧ (¬(oneRead 0 9 29 s).overLimit 0 ∧ (oneRead 0 9 29 (charged 37 0 s)).judge .read = .serves (.admits 6 .common)
      ∧ (oneRead 0 9 29 (charged 38 3 s)).judge .read = .serves (.admits 6 .reserve)
      ∧ (oneRead 0 9 29 (charged 38 4 s)).judge .read = .waits) := by decide +kernel

/-- All 16 buffers in use, two of them (2, the older, and 9) OPEN, and a write of another line at the write lane's head. -/
def pressed : State :=
  oneWrite ⟨9, 4, 1, 5000, true, bytes 0 7 1⟩
    { linked with
      mb := {
        buffers := Vector.ofFn fun b =>
          some (if b.val = 2 ∨ b.val = 9 then ⟨BitVec.ofNat 40 b.val, 0, 0, [], .opened (oneByte 0) 64⟩
            else ⟨BitVec.ofNat 40 b.val, 0, 0, [], .orphaned .age⟩)
        ageOrder := bufferIds } }

/-- R93's example: the oldest OPEN buffer, 2, is sealed with PRESSURE, and the next decision seals no other. -/
theorem test_decision_pressure : (after .decision pressed).buffer 2
      = some ⟨2, 0, 0, [], .sealed (oneByte 0) .pressure true []⟩
    ∧ after .decision (after .decision pressed) = after .decision pressed := by decide +kernel

theorem test_witness_PressureRequestSealsOldest :
    (pressed.mgmt.quiesce = .run ∧ pressed.judge .write = .wantsBuffer ∧ pressed.pick = none
      ∧ pressed.pressureTarget = some 2 ∧ ∀ b, (pressed.buffer b).any Buffer.isPressureSeal = false)
    ∧ ((after .decision pressed).mgmt.quiesce = .run ∧ (after .decision pressed).judge .write = .wantsBuffer
      ∧ (after .decision pressed).pick = none ∧ (after .decision pressed).pressureTarget = none
      ∧ ((after .decision pressed).buffer 2).any Buffer.isPressureSeal = true)
    ∧ ((oneRead 0 9 30 pressed).judge .write = .wantsBuffer
      ∧ (oneRead 0 9 30 pressed).pick = some (.read, .admits 0 .common)
      ∧ (oneRead 0 9 30 pressed).pressureTarget = some 2) := by decide +kernel

theorem test_witness_ReadAdmittedToSlot :
    ((oneRead 0 9 30 busy).mgmt.quiesce = .run ∧ (oneRead 0 9 30 busy).hport.readLane = .read 9 0 9 30 :: []
      ∧ (oneRead 0 9 30 busy).pick = some (.read, .admits 6 .common) ∧ (oneRead 0 9 30 busy).judge .write ≠ .wantsBuffer
      ∧ (∀ e, ∀ x ∈ (oneRead 0 9 30 busy).entry e, x.line = 30 → x.serves = false)
      ∧ (oneRead 0 9 30 busy).youngestBuffer? 30 = none)
    ∧ ((oneRead 0 9 7 busy).pick = some (.read, .admits 6 .common) ∧ (oneRead 0 9 7 busy).youngestBuffer? 7 = some 0
      ∧ (∀ e, ∀ x ∈ (oneRead 0 9 7 busy).entry e, x.line = 7 → x.serves = false)) := by decide +kernel

theorem test_witness_ReadServedByEntry :
    ((oneRead 0 9 20 busy).mgmt.quiesce = .run ∧ (oneRead 0 9 20 busy).hport.readLane = .read 9 0 9 20 :: []
      ∧ (oneRead 0 9 20 busy).pick = some (.read, .admits 6 .common) ∧ (oneRead 0 9 20 busy).judge .write ≠ .wantsBuffer
      ∧ (oneRead 0 9 20 busy).EntryLaw ∧ (oneRead 0 9 20 busy).entry 0 = some ⟨20, 6, .held zeros 800⟩)
    ∧ ((oneRead 0 9 21 busy).pick = some (.read, .admits 6 .common) ∧ (oneRead 0 9 21 busy).EntryLaw
      ∧ (oneRead 0 9 21 busy).entry 1 = some ⟨21, 6, .pending ⟨false, [5], some 100⟩⟩) := by decide +kernel

/-- A masked write of line `l` at the write lane's head of `busy`. -/
def writes (l : Line) : State := oneWrite ⟨9, 4, 1, l, true, bytes 0 7 1⟩ busy

/-- R87, R92, R95: the outcomes that only a write or a Flush has. -/
theorem test_witness_RoundRobin_write :
    (writes 30).judge .write = .serves (.admits 6 .common)
    ∧ ((oneWrite ⟨9, 4, 1, 30, true, bytes 1 0 0⟩ busy).judge .write = .waits
      ∧ (oneWrite ⟨9, 4, 1, 30, true, bytes 1 0 0⟩ linked).judge .write = .serves (.reject .emptyMask))
    ∧ pressed.judge .write = .wantsBuffer
    ∧ ((oneWrite ⟨9, 2, 9, 30, true, bytes 0 0 0⟩ (busy.setRecord 2 (.sealed []))).judge .write = .waits)
    ∧ ((oneFlush 2 9 (charged 38 1 busy)).judge .flush = .serves (.admits 6 .reserve)
      ∧ (oneFlush 2 9 (charged 38 2 busy)).judge .flush = .waits
      ∧ (oneFlush 2 3 { busy with resp.rrl := [] }).judge .flush = .serves (.reject .duplicateTag)) := by decide +kernel

/-- `writes 7` with `m` writes merged into the OPEN buffer 0, which holds the positions 8 to `hi`, source 4's record FILLING
with `n` entries and 5 units of its hold timer left. -/
def merging (m hi n : Nat) : State :=
  { (writes 7).setBuffer 0 (some ⟨7, m, 0, [], .opened ⟨bytes 8 hi 1, [1]⟩ 64⟩) with
    resp.records := (writes 7).resp.records.set 4 (.filling (List.replicate n ⟨0, .write, .ok⟩) 5) }

/-- R28, R31: position 63 makes the mask full, and FULL stands before COUNT; the eighth write is COUNT and the seventh seals
nothing. -/
theorem test_decision_seals :
    ((after .decision (merging 7 63 1)).counter (.seals .full) = 1
      ∧ (after .decision (merging 7 63 1)).counter (.seals .count) = 0)
    ∧ (after .decision (merging 7 62 1)).counter (.seals .count) = 1
    ∧ ((after .decision (merging 6 62 1)).buffer 0).any Buffer.isOpen = true := by decide +kernel

/-- R120, R121, R122: the eighth entry seals the record, a seventh leaves the timer as it runs, the first starts it. -/
theorem test_decision_record :
    ((after .decision (merging 1 9 7)).record 4).isSealed = true
    ∧ (after .decision (merging 1 9 6)).record 4
      = .filling (List.replicate 6 ⟨0, .write, .ok⟩ ++ [⟨1, .write, .ok⟩]) 5
    ∧ (after .decision (writes 7)).record 4 = .filling [⟨1, .write, .ok⟩] 20
    ∧ (after .decision { writes 7 with mgmt.regs.bundleHold := 0 }).record 4 = .sealed [⟨1, .write, .ok⟩] := by
  decide +kernel

theorem test_witness_WriteAdmittedAndMerged :
    ((writes 7).mgmt.quiesce = .run ∧ (writes 7).hport.writeLane = ⟨9, 4, 1, 7, true, bytes 0 7 1⟩ :: []
      ∧ (writes 7).pick = some (.write, .admits 6 .common) ∧ (writes 7).EntryLaw
      ∧ (writes 7).mgmt.regs.mergeEnable = true ∧ (writes 7).openBuffer? 7 = some 0
      ∧ (writes 7).buffer 0 = some ⟨7, 1, 0, [], .opened (oneByte 1) 64⟩ ∧ (writes 7).LineLaw
      ∧ (writes 7).record 4 = .empty)
    ∧ ((writes 20).pick = some (.write, .admits 6 .common) ∧ (writes 20).EntryLaw ∧ (writes 20).openBuffer? 20 = none)
    ∧ (({ writes 20 with mgmt.regs.mergeEnable := false } : State).pick = some (.write, .admits 6 .common)
      ∧ (after .decision { writes 20 with mgmt.regs.mergeEnable := false }).counter (.seals .disabled) = 1)
    ∧ ((merging 7 63 7).pick = some (.write, .admits 6 .common) ∧ (merging 7 63 7).EntryLaw
      ∧ (merging 7 62 6).pick = some (.write, .admits 6 .common)
      ∧ (merging 7 62 6).record 4 = .filling (List.replicate 6 ⟨0, .write, .ok⟩) 5
      ∧ (merging 6 62 1).pick = some (.write, .admits 6 .common)) :=
  ⟨by decide +kernel, by decide +kernel, by decide +kernel, by decide +kernel⟩

theorem test_witness_FlushAdmittedAndRegistered :
    ((oneFlush 1 9 busy).mgmt.quiesce = .run ∧ (oneFlush 1 9 busy).hport.flushLane = ⟨9, 1, 9⟩ :: []
      ∧ (oneFlush 1 9 busy).pick = some (.flush, .admits 6 .common) ∧ (oneFlush 1 9 busy).judge .write ≠ .wantsBuffer
      ∧ (oneFlush 1 9 busy).countBuffers (fun x => x.contributors.contains 1) = 1 ∧ (oneFlush 1 9 busy).flushOrder 1 = [])
    ∧ ((oneFlush 7 9 busy).pick = some (.flush, .admits 6 .common) ∧ ((oneFlush 7 9 busy).record 7).isSealed = false
      ∧ (oneFlush 7 9 busy).flushOrder 7 = []
      ∧ (oneFlush 7 9 busy).countBuffers (fun x => x.contributors.contains 7) = 0)
    ∧ ((oneFlush 2 9 busy).pick = some (.flush, .admits 6 .common) ∧ (oneFlush 2 9 busy).flushOrder 2 = 2 :: []
      ∧ (oneFlush 2 9 busy).slot 2 = some ⟨2, 3, .common, .flush 1⟩ ∧ ((oneFlush 2 9 busy).record 2).isSealed = false
      ∧ (oneFlush 2 9 busy).LineLaw) := by decide +kernel

/-- R50: a flush behind an earlier one of its source waits for the buffers it covers. -/
theorem test_decision_flush_behind : (after .decision (oneFlush 2 9 busy)).slot 6 = some ⟨2, 9, .common, .flush 1⟩
    ∧ (after .decision (oneFlush 2 9 busy)).flushOrder 2 = [2, 6]
    ∧ (after .decision (oneFlush 1 9 busy)).mport.iq = [.slot 0, .buffer 0] := by decide +kernel

/-- An idle part with a head that is rejected or retried. -/
def turned (src : Source) (tag : Tag) (l : Line) (p : Payload) : State :=
  oneWrite ⟨9, src, tag, l, true, p⟩ { metered .throttled 0 with
    mgmt.regs.topLine := 6000, resp := { linked.resp with rq := List.replicate 31 (.readReturn 0 0 .timeout) } }

theorem test_witness_RejectAndRetryAnswered :
    ((turned 2 9 8 (bytes 0 0 0)).mgmt.quiesce = .run ∧ (turned 2 9 8 (bytes 0 0 0)).pick = some (.write, .retry)
      ∧ (turned 2 9 8 (bytes 0 0 0)).judge .write ≠ .wantsBuffer)
    ∧ (turned 4 9 6000 (bytes 0 0 0)).pick = some (.write, .reject .outOfRange)
    ∧ (turned 4 9 8 (bytes 1 0 0)).pick = some (.write, .reject .emptyMask)
    ∧ (turned 1 2 8 (bytes 0 0 0)).pick = some (.write, .reject .duplicateTag)
    ∧ (turned 4 9 5999 (bytes 0 0 0)).pick = some (.write, .admits 6 .common) := by decide +kernel

theorem test_witness_HintAcceptedOrDropped :
    ((oneHint 20 busy).hport.readLane = .hint 9 5 20 :: [] ∧ (oneHint 20 busy).mgmt.quiesce = .run
      ∧ (oneHint 20 busy).judge .write ≠ .wantsBuffer ∧ ((oneHint 20 busy).entry 0).any (fun x => x.line == 20) = true
      ∧ ((oneHint 20 busy).pick).isSome = true)
    ∧ ((oneHint 30 busy).hport.readLane = .hint 9 5 30 :: [] ∧ ((oneHint 30 busy).pick).isSome = true
      ∧ (oneHint 30 busy).mgmt.regs.hintEnable = true ∧ (oneHint 30 busy).mport.up = true
      ∧ (30 : Line).toNat < (oneHint 30 busy).mgmt.regs.topLine.toNat
      ∧ (∀ e, ∀ x ∈ (oneHint 30 busy).entry e, x.line ≠ 30) ∧ (∀ b, ∀ x ∈ (oneHint 30 busy).buffer b, x.line ≠ 30)
      ∧ (oneHint 30 busy).entry 2 = none ∧ ∀ e' : EntryId, e' < 2 → (oneHint 30 busy).entry e' ≠ none) := by decide +kernel

/-- `busy` with nothing but the aged buffer 0 in the IQ, and with nothing but an accepted Hint in it. -/
def aged : State := { after (.ageTimer 0) busy with mport.iq := [.buffer 0] }
def hinted : State := { after .decision (oneHint 30 busy) with mport.iq := [.entry 2] }
/-- `busy` with so many messages in the RQ. -/
def crowded (n : Nat) : State := { busy with resp.rq := List.replicate n (.readReturn 0 0 .timeout) }

theorem test_witness_IqHeadDeparts :
    (State.reset.mport.up = false ∧ (after .mLinkUp State.reset).mport.credits = 0)
    ∧ (linked.QuietLaw ∧ linked.mport.iq = [])
    ∧ (busy.mport.up = true ∧ 0 < busy.mport.credits ∧ busy.mport.iq = .slot 0 :: []
      ∧ busy.slot 0 = some ⟨0, 1, .common, .read 5 false .ready⟩)
    ∧ (aged.mport.up = true ∧ 0 < aged.mport.credits ∧ aged.mport.iq = .buffer 0 :: []
      ∧ aged.buffer 0 = some ⟨7, 1, 0, [], .sealed (oneByte 1) .age true []⟩)
    ∧ (hinted.mport.up = true ∧ 0 < hinted.mport.credits ∧ hinted.mport.iq = .entry 2 :: []
      ∧ hinted.entry 2 = some ⟨30, 5, .pending ⟨true, [], none⟩⟩) := by decide +kernel

theorem test_witness_ReadEntersResponseQueue :
    32 ≤ (crowded 32).resp.rq.length ∧ (linked.QuietLaw ∧ linked.resp.rrl = [])
    ∧ ((crowded 31).resp.rq.length < 32 ∧ (crowded 31).resp.rrl = .slot 4 :: []
      ∧ (crowded 31).slot 4 = some ⟨3, 5, .common, .read 11 false (.returned .timeout false)⟩)
    ∧ (lossy.resp.rrl = .slot 4 :: [] ∧ lossy.slot 4 = some ⟨3, 5, .common, .read 11 false (.returned .timeout true)⟩) := by
  decide +kernel

/-- `busy` with the record of source 2 SEALED at the RRL head; with `n` 0 its waiting flush is finished. -/
def sealedAck (n : Nat) : State :=
  { (busy.setRecord 2 (.sealed [⟨4, .write, .ok⟩])).setSlot 2 (some ⟨2, 3, .common, .flush n⟩) with
    resp.rrl := [.record 2] }

theorem test_witness_BundleEntersResponseQueue :
    32 ≤ (crowded 32).resp.rq.length ∧ (linked.QuietLaw ∧ linked.resp.rrl = [])
    ∧ (bundled.resp.rq.length < 32 ∧ bundled.resp.rrl = .record 1 :: [] ∧ bundled.record 1 = .sealed [⟨2, .write, .ok⟩]
      ∧ bundled.flushOrder 1 = [])
    ∧ ((sealedAck 0).resp.rrl = .record 2 :: [] ∧ (sealedAck 0).record 2 = .sealed [⟨4, .write, .ok⟩]
      ∧ (sealedAck 0).flushOrder 2 = 2 :: [] ∧ (sealedAck 0).slot 2 = some ⟨2, 3, .common, .flush 0⟩)
    ∧ ((sealedAck 1).flushOrder 2 = 2 :: [] ∧ (sealedAck 1).slot 2 ≠ some ⟨2, 3, .common, .flush 0⟩) := by decide +kernel

theorem test_witness_ResponseDeparts :
    (State.reset.hport.up = false ∧ linked.resp.rq = [] ∧ (after .hLinkUp State.reset).resp.credits = 0)
    ∧ (bundled.hport.up = true ∧ 0 < bundled.resp.credits ∧ bundled.resp.rq = .readReturn 3 5 .timeout :: []) := by
  decide +kernel

theorem test_witness_StepKeepsSlotCounts :
    ((waiting (.storeDone 49 .ok)).ChargesLaw ∧ (waiting (.storeDone 49 .ok)).HoldingLaw
      ∧ (waiting (.storeDone 49 .ok)).MergedLaw) ∧ completes (.storeDone 49 .ok) busy = true := by decide +kernel
theorem test_witness_StepKeepsLineOrder :
    ((waiting .quiesce).LineLaw ∧ (waiting .quiesce).AgeLaw) ∧ completes .quiesce busy = true := by decide +kernel
theorem test_witness_StepKeepsEntriesOffBuffers :
    ({ oneWrite ⟨9, 4, 1, 20, true, bytes 0 7 1⟩ busy with pending := [.decision] } : State).EntryLaw
      ∧ completes .decision (oneWrite ⟨9, 4, 1, 20, true, bytes 0 7 1⟩ busy) = true := by decide +kernel
theorem test_witness_StepKeepsWaitLists :
    (waiting (.fetchData 65 .ok zeros)).WaitLaw ∧ completes (.fetchData 65 .ok zeros) busy = true := by decide +kernel
theorem test_witness_StepKeepsIssueQueue : (waiting .departure).IqLaw ∧ completes .departure busy = true := by
  refine ⟨⟨by decide +kernel, fun r => ?_⟩, by decide +kernel⟩
  cases r with
  | slot i => revert i; decide +kernel
  | buffer b => revert b; decide +kernel
  | entry e => revert e; decide +kernel
theorem test_witness_StepKeepsDtagSets :
    (waiting (.drainDeadline 1)).DtagLaw ∧ completes (.drainDeadline 1) busy = true := by decide +kernel
theorem test_busy_rrlLaw : busy.RrlLaw := by
  refine ⟨by decide +kernel, fun r => ?_, by decide +kernel⟩
  cases r with
  | slot i => revert i; decide +kernel
  | record src => revert src; decide +kernel
theorem test_witness_StepKeepsResponseList :
    ((waiting .rrlReadEntry).RrlLaw ∧ (waiting .rrlReadEntry).BundleLaw) ∧ completes .rrlReadEntry busy = true :=
  ⟨⟨test_busy_rrlLaw, by decide +kernel⟩, by decide +kernel⟩
theorem test_witness_StepKeepsLanesAndLimits :
    ((waiting (.hint 3 300)).LaneLaw ∧ (waiting (.hint 3 300)).LimitLaw ∧ (waiting (.hint 3 300)).RangeLaw) ∧ completes (.hint 3 300) busy = true := by
  decide +kernel
theorem test_witness_StepKeepsStatus :
    ((waiting .quiesce).IrqLaw ∧ (waiting .quiesce).QuietLaw ∧ (waiting .quiesce).MeterLaw)
      ∧ completes .quiesce busy = true := by decide +kernel
theorem test_witness_StepKeepsFlushes :
    ((waiting (.storeDone 49 .ok)).OrderLaw ∧ (waiting (.storeDone 49 .ok)).FlushLaw
      ∧ (waiting (.storeDone 49 .ok)).FinishLaw) ∧ completes (.storeDone 49 .ok) busy = true :=
  ⟨⟨by decide +kernel, by decide +kernel, by decide +kernel⟩, by decide +kernel⟩

theorem test_busy_tagLaw : busy.TagLaw := by
  refine ⟨by decide +kernel, fun q => ?_⟩
  have held : busy.heldPairs = [(0, 1), (2, 3), (3, 5), (4, 6), (1, 2)] := by decide +kernel
  have live : busy.tt.tagMap = [(0, 1), (1, 2), (2, 3), (3, 5), (4, 6)] := by decide +kernel
  rw [held, live, List.Nodup.count (by decide)]
  simp only [List.mem_cons, List.not_mem_nil, or_false]
  grind
theorem test_witness_StepKeepsTagMap :
    ((waiting .bundleEntry).OrderLaw ∧ (waiting .bundleEntry).RrlLaw ∧ (waiting .bundleEntry).TagLaw)
      ∧ completes .bundleEntry busy = true :=
  ⟨⟨by decide +kernel, test_busy_rrlLaw, test_busy_tagLaw⟩, by decide +kernel⟩

end Sys2Proof.Tests
end

section
/-! The books of the part: what the charges, the holding counts, the merged counts and the tag map read of a state, and
what taking, changing and freeing one slot does to it. -/

-- as in the tests: one thread for the proofs, since the check's memory limit leaves no room for one thread each
set_option Elab.async false

namespace Sys2Proof.Machine

/-! ## Counting slots -/

/-- The buffer a slot is MERGED into. -/
def Slot.mergedBuffer (sl : Slot) : Option BufferId :=
  match sl.body with
  | .write _ _ b => some b
  | .read _ _ _ | .flush _ => none

/-- Whether a slot holds a flush. -/
def Slot.isFlush (sl : Slot) : Bool :=
  match sl.body with
  | .flush _ => true
  | .read _ _ _ | .write _ _ _ => false

/-- A read holds its pair until it is detached or has handed on its response (section 1.3). -/
theorem Slot.heldPair_read (src : Source) (tag : Tag) (charge : Charge) (line : Line) (detached : Bool)
    (c : ReadCourse) :
    Slot.heldPair ⟨src, tag, charge, .read line detached c⟩
      = if detached = true ∨ c = .orphaned then none else some (src, tag) := by
  cases detached <;> cases c <;> simp [Slot.heldPair]

theorem mergedInto_some (b : BufferId) (sl : Slot) : mergedInto b (some sl) = (sl.mergedBuffer == some b) := by
  obtain ⟨_, _, _, _ | _ | _⟩ := sl <;> rfl

/-- How many slots are MERGED into a buffer. -/
def State.mergedSlots (s : State) (b : BufferId) : Nat := s.countSlots fun sl => sl.mergedBuffer == some b

/-- What the counts read of a slot. -/
def Slot.account (sl : Slot) : Source × Pool × Option BufferId := (sl.source, sl.pool, sl.mergedBuffer)

/-- What the tag map's law and the flush order lists read of a slot. -/
def Slot.claim (sl : Slot) : Source × Option (Source × Tag) × Bool := (sl.source, sl.heldPair, sl.isFlush)

/-- A count reads of each slot only what its property reads. -/
theorem State.countSlots_congr {s t : State} {α : Type} {f : Slot → α} (h : ∀ i, (t.slot i).map f = (s.slot i).map f)
    (p : α → Bool) : t.countSlots (fun sl => p (f sl)) = s.countSlots fun sl => p (f sl) := by
  have any_map (u : State) (i : SlotId) : (u.slot i).any (fun sl => p (f sl)) = ((u.slot i).map f).any p := by
    simp [Option.any_map]
  simp only [State.countSlots, any_map, h]

/-- Two states that differ in one slot differ in their counts by that slot. -/
theorem State.countSlots_update {s t : State} {i : SlotId} (h : ∀ j, j ≠ i → t.slot j = s.slot j) (p : Slot → Bool) :
    t.countSlots p + ((s.slot i).any p).toNat = s.countSlots p + ((t.slot i).any p).toNat := by
  obtain ⟨l, l', hl⟩ := List.append_of_mem (mem_slotIds i)
  have hnd : (l ++ i :: l').Nodup := hl ▸ slotIds_nodup
  obtain ⟨hi, -⟩ := List.nodup_cons.mp (List.nodup_middle.mp hnd)
  have same (m : List SlotId) (hm : i ∉ m) :
      m.countP (fun j => (t.slot j).any p) = m.countP fun j => (s.slot j).any p :=
    List.countP_congr fun j hj => by rw [h j (ne_of_mem_of_not_mem hj hm)]
  have hl1 : i ∉ l := fun m => hi (List.mem_append_left _ m)
  have hl2 : i ∉ l' := fun m => hi (List.mem_append_right _ m)
  simp only [State.countSlots, hl, List.countP_append, List.countP_cons, same l hl1, same l' hl2]
  cases (s.slot i).any p <;> cases (t.slot i).any p <;> simp <;> omega

theorem State.countSlots_takeSlot {s : State} {i : SlotId} (h : s.slot i = none) (sl : Slot) (p : Slot → Bool) :
    (s.takeSlot i sl).countSlots p = s.countSlots p + (p sl).toNat := by
  have := State.countSlots_update (s := s) (t := s.takeSlot i sl) (i := i) (fun j hj => by simp [hj]) p
  simpa [h] using this

theorem State.countSlots_freeSlot (s : State) (i : SlotId) (p : Slot → Bool) :
    (s.freeSlot i).countSlots p + ((s.slot i).any p).toNat = s.countSlots p := by
  have := State.countSlots_update (s := s) (t := s.freeSlot i) (i := i) (fun j hj => by simp [hj]) p
  simpa using this

/-! ## Charges and holding counts -/

theorem Charges.of_modify (c : Charges) (f : Nat → Nat) (p p' : Pool) :
    (c.modify f p).of p' = if p' = p then f (c.of p) else c.of p' := by
  cases p <;> cases p' <;> rfl

/-- The charges and the holding counts are the slots they count (R4, R9). -/
def State.Charged (s : State) : Prop := s.ChargesLaw ∧ s.HoldingLaw

theorem State.charged_iff {s : State} :
    s.Charged ↔ (∀ p, s.tt.charges.of p = s.countSlots (fun sl => sl.pool == p) ∧ s.tt.charges.of p ≤ poolSize p)
      ∧ ∀ src, s.holdingOf src = s.countSlots fun sl => sl.source == src := by
  constructor
  · rintro ⟨hc, hh⟩
    exact ⟨fun p => hc p (by cases p <;> simp), hh⟩
  · rintro ⟨hc, hh⟩
    exact ⟨fun p _ => hc p, hh⟩

theorem State.freeSlot_charged {s : State} (i : SlotId) (h : s.Charged) : (s.freeSlot i).Charged := by
  cases hs : s.slot i with
  | none => rwa [State.freeSlot_of_none hs]
  | some sl =>
    obtain ⟨hc, hh⟩ := State.charged_iff.mp h
    refine State.charged_iff.mpr ⟨fun p => ?_, fun src => ?_⟩
    · have count := s.countSlots_freeSlot i fun sl => sl.pool == p
      have charge : (s.freeSlot i).tt.charges.of p
          = if p = sl.pool then s.tt.charges.of sl.pool - 1 else s.tt.charges.of p := by
        rw [State.freeSlot_of_some hs]; exact Charges.of_modify ..
      obtain ⟨hp, hle⟩ := hc p
      rw [hs, Option.any_some] at count
      rw [charge]
      split
      · next e => subst e; simp at count; omega
      · next e => simp [beq_false_of_ne (Ne.symm e)] at count; omega
    · have count := s.countSlots_freeSlot i fun sl => sl.source == src
      have holding : (s.freeSlot i).holdingOf src
          = if src = sl.source then s.holdingOf sl.source - 1 else s.holdingOf src := by
        rw [State.freeSlot_of_some hs]; exact tget_tset ..
      have hsrc := hh src
      rw [hs, Option.any_some] at count
      rw [holding]
      split
      · next e => subst e; simp at count; omega
      · next e => simp [beq_false_of_ne (Ne.symm e)] at count; omega

theorem State.takeSlot_charged {s : State} {i : SlotId} {sl : Slot} (hfree : s.slot i = none)
    (hroom : s.tt.charges.of sl.pool < poolSize sl.pool) (h : s.Charged) : (s.takeSlot i sl).Charged := by
  obtain ⟨hc, hh⟩ := State.charged_iff.mp h
  refine State.charged_iff.mpr ⟨fun p => ?_, fun src => ?_⟩
  · obtain ⟨hp, hle⟩ := hc p
    rw [State.countSlots_takeSlot hfree, State.charges_takeSlot, Charges.of_modify]
    split
    · next e => subst e; simp; omega
    · next e => simp [beq_false_of_ne (Ne.symm e)]; omega
  · have hsrc := hh src
    rw [State.countSlots_takeSlot hfree, State.holdingOf_takeSlot]
    split
    · next e => subst e; simp; omega
    · next e => simp [beq_false_of_ne (Ne.symm e)]; omega

/-! ## Merged counts -/

/-- R18 for one buffer. -/
def State.MergedAt (s : State) (b : BufferId) : Prop :=
  (s.buffer b = none → s.mergedSlots b = 0)
    ∧ ∀ x ∈ s.buffer b,
      x.merged = s.mergedSlots b ∧ x.merged ≤ Config.mergeLimit ∧ (x.isOpen = true → x.merged < Config.mergeLimit)
        ∧ (x.isOrphaned = true → x.merged = 0)

theorem State.mergedSlots_congr {s t : State} (htt : t.tt = s.tt) (b : BufferId) :
    t.mergedSlots b = s.mergedSlots b := by
  simp only [State.mergedSlots, State.countSlots, State.slot_congr htt]

theorem State.Charged.congr {s t : State} (h : s.Charged) (htt : t.tt = s.tt) : t.Charged := by
  simpa only [State.Charged, State.ChargesLaw, State.HoldingLaw, State.countSlots, State.slot_congr htt,
    State.holdingOf_congr htt, htt] using h

theorem State.MergedAt.congr {s t : State} {b : BufferId} (h : s.MergedAt b) (htt : t.tt = s.tt)
    (hb : t.buffer b = s.buffer b) : t.MergedAt b := by
  rwa [State.MergedAt, State.mergedSlots_congr htt, hb]

theorem State.mergedLaw_iff {s : State} : s.MergedLaw ↔ ∀ b, s.MergedAt b := by
  simp only [State.MergedAt, State.mergedSlots, State.MergedLaw, mergedInto_some]

/-- Charges, holding counts and merged counts are the slots they count. -/
def State.CountsLaw (s : State) : Prop := s.Charged ∧ ∀ b, s.MergedAt b

theorem State.countsLaw_iff {s : State} : s.CountsLaw ↔ s.ChargesLaw ∧ s.HoldingLaw ∧ s.MergedLaw := by
  rw [State.CountsLaw, ← State.mergedLaw_iff, State.Charged, and_assoc]

/-- The counts while buffer `b` is being resolved: its slots are FREE already, its record is still as it was. -/
def State.CountsBut (s : State) (b : BufferId) : Prop :=
  s.Charged ∧ s.mergedSlots b = 0 ∧ ∀ b', b' ≠ b → s.MergedAt b'

/-- A buffer's record changes, and its merged count stays what it counts. -/
structure Buffer.KeptAs (x y : Buffer) : Prop where
  merged : y.merged = x.merged
  isOpen : y.isOpen = true → x.isOpen = true
  isOrphaned : y.isOrphaned = true → x.isOrphaned = true

theorem Buffer.KeptAs.refl (x : Buffer) : x.KeptAs x := ⟨rfl, id, id⟩

theorem Buffer.KeptAs.trans {x y z : Buffer} (h : x.KeptAs y) (h' : y.KeptAs z) : x.KeptAs z :=
  ⟨h'.merged.trans h.merged, h.isOpen ∘ h'.isOpen, h.isOrphaned ∘ h'.isOrphaned⟩

/-! ## Holders of a pair -/

/-- The acknowledgements that wait in a source's bundle record. -/
def State.acksOf (s : State) (src : Source) : List Ack := (s.record src).acks

/-- How many slots and bundle entries hold a pair. -/
def State.holders (s : State) (q : Source × Tag) : Nat :=
  s.countSlots (fun sl => sl.heldPair == some q) + ((s.acksOf q.1).map Ack.tag).count q.2

theorem State.count_heldPairs (s : State) (q : Source × Tag) : s.heldPairs.count q = s.holders q := by
  obtain ⟨src, tag⟩ := q
  have inSlots : (slotIds.filterMap fun i => (s.slot i).bind Slot.heldPair).count (src, tag)
      = s.countSlots fun sl => sl.heldPair == some (src, tag) := by
    rw [List.count_filterMap]
    exact List.countP_congr fun i _ => by cases s.slot i <;> simp
  have inRecord (src' : Source) : ((s.record src').acks.map fun a => (src', a.tag)).count (src, tag)
      = if src' = src then ((s.acksOf src).map Ack.tag).count tag else 0 := by
    split
    · next e =>
      subst e
      have := List.count_map_of_injective ((s.acksOf src').map Ack.tag) _ (Prod.mk_right_injective src') tag
      rwa [List.map_map] at this
    · next e => simp [List.count_eq_zero, e]
  have inRecords : (sources.flatMap fun src' => (s.record src').acks.map fun a => (src', a.tag)).count (src, tag)
      = ((s.acksOf src).map Ack.tag).count tag := by
    rw [List.count_flatMap, List.sum_map_eq_nsmul_single src]
    · simp [inRecord, List.Nodup.count sources_nodup, mem_sources]
    · intro src' hne _
      simp [inRecord, hne]
  rw [State.heldPairs, List.count_append, inSlots, inRecords, State.holders]

/-- A flush on a source's flush order list is that source's (R50). -/
def State.OrderOwn (s : State) : Prop :=
  ∀ src, ∀ i ∈ s.flushOrder src, ∀ sl ∈ s.slot i, sl.isFlush = true → sl.source = src

end Sys2Proof.Machine
end

section
/-! What keeps the books. Most parts of a happening take no slot, merge no write and end no pair. Slots may become FREE,
which the counts follow, and a flush that completes hands its pair from its slot to its source's bundle record. -/

-- as in the tests: one thread for the proofs, since the check's memory limit leaves no room for one thread each
set_option Elab.async false

namespace Sys2Proof.Machine

/-! ## The relations -/

/-- From `s` to `t` the counts stay true, no slot is merged or ends its merge, and every buffer keeps its merged
count. -/
structure State.KeepsCounts (s t : State) : Prop where
  charged : s.Charged → t.Charged
  merged : ∀ b, t.mergedSlots b = s.mergedSlots b
  buffers : ∀ b, Option.Rel Buffer.KeptAs (s.buffer b) (t.buffer b)

/-- From `s` to `t` the tag map stays, and so does the number of holders of each pair. -/
structure State.KeepsPairs (s t : State) : Prop where
  tagMap : t.tt.tagMap = s.tt.tagMap
  order : s.OrderOwn → t.OrderOwn
  holders : s.OrderOwn → ∀ q, t.holders q = s.holders q

/-- From `s` to `t` both the counts and the pairs are kept: what most operations do. -/
structure State.KeepsBooks (s t : State) : Prop where
  counts : s.KeepsCounts t
  pairs : s.KeepsPairs t

variable {s t u : State}

theorem buffersKept_of_eq (h : t.mb.buffers = s.mb.buffers) (b : BufferId) :
    Option.Rel Buffer.KeptAs (s.buffer b) (t.buffer b) := by
  rw [State.buffer, State.buffer, h]
  cases tget s.mb.buffers b with
  | none => exact .none
  | some x => exact .some (.refl x)

theorem State.KeepsCounts.trans (h : s.KeepsCounts t) (h' : t.KeepsCounts u) : s.KeepsCounts u where
  charged := h'.charged ∘ h.charged
  merged b := (h'.merged b).trans (h.merged b)
  buffers b := by
    have hb := h.buffers b
    have hb' := h'.buffers b
    generalize s.buffer b = x, t.buffer b = y, u.buffer b = z at hb hb'
    cases hb with
    | none => exact hb'
    | some hk =>
      cases hb' with
      | some hk' => exact .some (hk.trans hk')

theorem State.KeepsPairs.trans (h : s.KeepsPairs t) (h' : t.KeepsPairs u) : s.KeepsPairs u where
  tagMap := h'.tagMap.trans h.tagMap
  order := h'.order ∘ h.order
  holders ho q := (h'.holders (h.order ho) q).trans (h.holders ho q)

theorem State.KeepsBooks.trans (h : s.KeepsBooks t) (h' : t.KeepsBooks u) : s.KeepsBooks u :=
  ⟨h.counts.trans h'.counts, h.pairs.trans h'.pairs⟩

/-- The counts do not see a change that leaves each slot's account. -/
theorem State.KeepsCounts.of_accounts (hacc : ∀ i, (t.slot i).map Slot.account = (s.slot i).map Slot.account)
    (hcharges : t.tt.charges = s.tt.charges) (hholding : t.tt.holding = s.tt.holding)
    (hbuf : ∀ b, Option.Rel Buffer.KeptAs (s.buffer b) (t.buffer b)) : s.KeepsCounts t where
  charged h := by
    obtain ⟨hc, hh⟩ := State.charged_iff.mp h
    refine State.charged_iff.mpr ⟨fun p => ?_, fun src => ?_⟩
    · have := State.countSlots_congr hacc fun a => a.2.1 == p
      rw [hcharges]
      exact ⟨(hc p).1.trans this.symm, (hc p).2⟩
    · have := State.countSlots_congr hacc fun a => a.1 == src
      rw [State.holdingOf, hholding]
      exact (hh src).trans this.symm
  merged b := State.countSlots_congr hacc fun a => a.2.2 == some b
  buffers := hbuf

/-- Order lists that lose slots, or whose slots change their claims to none, go on holding flushes of their source. -/
theorem State.OrderOwn.mono (ho : s.OrderOwn) (hord : ∀ src, t.flushOrder src ⊆ s.flushOrder src)
    (hclaim : ∀ i, ∀ sl ∈ t.slot i, ∃ sl' ∈ s.slot i, sl'.claim = sl.claim) : t.OrderOwn := by
  intro src i hi sl hsl hf
  obtain ⟨sl', hsl', hc⟩ := hclaim i sl hsl
  obtain ⟨hsource, -, hflush⟩ : sl'.source = sl.source ∧ sl'.heldPair = sl.heldPair ∧ sl'.isFlush = sl.isFlush := by
    simpa [Slot.claim] using hc
  exact hsource ▸ ho src i (hord src hi) sl' hsl' (hflush ▸ hf)

/-- The tag map's law does not see a change that leaves each slot's claim, the order lists and the acknowledgements. -/
theorem State.KeepsPairs.of_claims (hclaim : ∀ i, (t.slot i).map Slot.claim = (s.slot i).map Slot.claim)
    (htag : t.tt.tagMap = s.tt.tagMap) (hord : t.fl.order = s.fl.order) (hacks : ∀ src, t.acksOf src = s.acksOf src) :
    s.KeepsPairs t where
  tagMap := htag
  order ho := by
    refine ho.mono (fun src => by rw [State.flushOrder, State.flushOrder, hord]; exact List.Subset.refl _) ?_
    intro i sl hsl
    have := hclaim i
    rw [hsl] at this
    simpa [eq_comm] using this
  holders _ q := by
    have := State.countSlots_congr hclaim fun c => c.2.1 == some q
    exact congrArg₂ (· + ·) this (by rw [hacks])

theorem State.KeepsCounts.of_buffers (hbuf : ∀ b, Option.Rel Buffer.KeptAs (s.buffer b) (t.buffer b))
    (htt : t.tt = s.tt := by simp) : s.KeepsCounts t :=
  .of_accounts (fun i => by rw [State.slot_congr htt]) (by rw [htt]) (by rw [htt]) hbuf

theorem State.KeepsCounts.of_same (htt : t.tt = s.tt := by simp) (hmb : t.mb.buffers = s.mb.buffers := by simp) :
    s.KeepsCounts t :=
  .of_buffers (buffersKept_of_eq hmb) htt

theorem State.KeepsPairs.of_acks (hacks : ∀ src, t.acksOf src = s.acksOf src) (htt : t.tt = s.tt := by simp)
    (hord : t.fl.order = s.fl.order := by simp) : s.KeepsPairs t :=
  .of_claims (fun i => by rw [State.slot_congr htt]) (by rw [htt]) hord hacks

theorem State.KeepsPairs.of_same (htt : t.tt = s.tt := by simp) (hord : t.fl.order = s.fl.order := by simp)
    (hrec : t.resp.records = s.resp.records := by simp) : s.KeepsPairs t :=
  .of_acks (fun src => by rw [State.acksOf, State.acksOf, State.record, State.record, hrec]) htt hord

/-- What leaves the slots and counts of the TT, the buffers, the order lists and the bundle records keeps the books. -/
theorem State.KeepsBooks.of_same (htt : t.tt = s.tt := by simp) (hmb : t.mb.buffers = s.mb.buffers := by simp)
    (hord : t.fl.order = s.fl.order := by simp) (hrec : t.resp.records = s.resp.records := by simp) : s.KeepsBooks t :=
  ⟨.of_same htt hmb, .of_same htt hord hrec⟩

theorem State.KeepsBooks.refl (s : State) : s.KeepsBooks s := .of_same

theorem State.pushIq_keepsBooks (s : State) (r : IqRef) : s.KeepsBooks (s.pushIq r) := .of_same
theorem State.pushRrl_keepsBooks (s : State) (r : RrlRef) : s.KeepsBooks (s.pushRrl r) := .of_same
theorem State.bump_keepsBooks (s : State) (k : Counter) : s.KeepsBooks (s.bump k) := .of_same
theorem State.logNotice_keepsBooks (s : State) (n : Notice) : s.KeepsBooks (s.logNotice n) := .of_same
theorem State.checkQuiet_keepsBooks (s : State) : s.KeepsBooks s.checkQuiet := .of_same
theorem State.setEntry_keepsBooks (s : State) (e : EntryId) (x : Option Entry) : s.KeepsBooks (s.setEntry e x) :=
  .of_same
theorem State.setLatches_keepsBooks (s : State) (l : List Source) : s.KeepsBooks (s.setLatches l) := .of_same
theorem State.dtagFree_keepsBooks (s : State) (d : Dtag) : s.KeepsBooks (s.dtagFree d) := .of_same
theorem State.dtagOrphan_keepsBooks (s : State) (d : Dtag) : s.KeepsBooks (s.dtagOrphan d) := .of_same

/-- What each step of a fold keeps, the fold keeps. -/
theorem State.KeepsBooks.foldl {α : Type} {g : State → α → State} (h : ∀ (s : State) x, s.KeepsBooks (g s x))
    (l : List α) (s : State) : s.KeepsBooks (l.foldl g s) :=
  foldl_invariant s.KeepsBooks g (fun t x ht => ht.trans (h t x)) l s (.refl s)

theorem State.KeepsPairs.foldl {α : Type} {g : State → α → State} (h : ∀ (s : State) x, s.KeepsPairs (g s x))
    (l : List α) (s : State) : s.KeepsPairs (l.foldl g s) :=
  foldl_invariant s.KeepsPairs g (fun t x ht => ht.trans (h t x)) l s (KeepsBooks.refl s).pairs

/-! ## What the relations are for -/

theorem State.KeepsCounts.mergedAt (h : s.KeepsCounts t) {b : BufferId} (hb : s.MergedAt b) : t.MergedAt b := by
  obtain ⟨hfree, hsome⟩ := hb
  have hk := h.buffers b
  rw [State.MergedAt, h.merged]
  generalize s.buffer b = x, t.buffer b = y at hfree hsome hk
  cases hk with
  | none => exact ⟨hfree, nofun⟩
  | some hk =>
    obtain ⟨hm, hle, hopen, horph⟩ := hsome _ rfl
    refine ⟨nofun, fun z hz => ?_⟩
    obtain rfl := Option.some.inj hz
    rw [hk.merged]
    exact ⟨hm, hle, hopen ∘ hk.isOpen, horph ∘ hk.isOrphaned⟩

theorem State.KeepsCounts.countsLaw (h : s.KeepsCounts t) (hs : s.CountsLaw) : t.CountsLaw :=
  ⟨h.charged hs.1, fun b => h.mergedAt (hs.2 b)⟩

theorem State.KeepsCounts.countsBut (h : s.KeepsCounts t) {b : BufferId} (hs : s.CountsBut b) : t.CountsBut b := by
  obtain ⟨hc, h0, hm⟩ := hs
  exact ⟨h.charged hc, (h.merged b).trans h0, fun b' hb' => h.mergedAt (hm b' hb')⟩

theorem State.tagLaw_iff : s.TagLaw ↔ s.tt.tagMap.Nodup ∧ ∀ q, s.holders q = if q ∈ s.tt.tagMap then 1 else 0 := by
  simp only [State.TagLaw, State.count_heldPairs]

theorem State.KeepsPairs.tagLaw (h : s.KeepsPairs t) (ho : s.OrderOwn) (hs : s.TagLaw) : t.TagLaw := by
  obtain ⟨hnd, hq⟩ := State.tagLaw_iff.mp hs
  rw [State.tagLaw_iff, h.tagMap]
  exact ⟨hnd, fun q => (h.holders ho q).trans (hq q)⟩

theorem State.OrderLaw.own (h : s.OrderLaw) : s.OrderOwn := by
  intro src i hi sl hsl _
  have hf := ((h src).2 i).mp hi
  unfold State.isFlushOf at hf
  split at hf
  · next hs =>
    obtain rfl := Option.some.inj (hs.symm.trans hsl)
    exact beq_iff_eq.mp hf
  · exact absurd hf Bool.false_ne_true

/-! ## Slots -/

theorem State.map_slot_setSlot {α : Type} {f : Slot → α} {i : SlotId} {sl sl' : Slot} (h : s.slot i = some sl)
    (hf : f sl' = f sl) (j : SlotId) : ((s.setSlot i (some sl')).slot j).map f = (s.slot j).map f := by
  rw [State.slot_setSlot]
  split
  · next e => simp [e, h, hf]
  · rfl

theorem State.setSlot_keepsCounts {i : SlotId} {sl sl' : Slot} (h : s.slot i = some sl)
    (ha : sl'.account = sl.account) : s.KeepsCounts (s.setSlot i (some sl')) :=
  .of_accounts (State.map_slot_setSlot h ha) rfl rfl (buffersKept_of_eq rfl)

theorem State.setSlot_keepsPairs {i : SlotId} {sl sl' : Slot} (h : s.slot i = some sl) (hc : sl'.claim = sl.claim) :
    s.KeepsPairs (s.setSlot i (some sl')) :=
  .of_claims (State.map_slot_setSlot h hc) rfl rfl fun _ => rfl

theorem State.setCourse_keepsCounts (s : State) (i : SlotId) (c : ReadCourse) : s.KeepsCounts (s.setCourse i c) := by
  unfold State.setCourse
  split
  · next h => exact State.setSlot_keepsCounts h rfl
  · exact .of_same

/-- A read that goes on in its course keeps the books if it goes on holding its pair, or holds none as before. -/
theorem State.setCourse_keepsBooks {i : SlotId} {src tag charge line detached c}
    (h : s.slot i = some ⟨src, tag, charge, .read line detached c⟩) (c' : ReadCourse)
    (hpair : detached = true ∨ c ≠ .orphaned ∧ c' ≠ .orphaned) : s.KeepsBooks (s.setCourse i c') := by
  refine ⟨s.setCourse_keepsCounts i c', ?_⟩
  rw [State.setCourse_of_read h]
  refine State.setSlot_keepsPairs h ?_
  have : Slot.heldPair ⟨src, tag, charge, .read line detached c'⟩
      = Slot.heldPair ⟨src, tag, charge, .read line detached c⟩ := by
    rcases hpair with hd | ⟨hc, hc'⟩
    · simp [Slot.heldPair_read, hd]
    · simp [Slot.heldPair_read, hc, hc']
  simp [Slot.claim, this, Slot.isFlush]

theorem State.freeSlot_keepsCounts {i : SlotId} (h : ∀ sl ∈ s.slot i, sl.mergedBuffer = none) :
    s.KeepsCounts (s.freeSlot i) where
  charged := State.freeSlot_charged i
  merged b := by
    have count := s.countSlots_freeSlot i fun sl => sl.mergedBuffer == some b
    have : (s.slot i).any (fun sl => sl.mergedBuffer == some b) = false := by
      cases hs : s.slot i with
      | none => rfl
      | some sl => simp [h sl hs]
    simpa [State.mergedSlots, this] using count
  buffers := buffersKept_of_eq (by simp)

theorem State.freeSlot_keepsPairs {i : SlotId} (h : ∀ sl ∈ s.slot i, sl.heldPair = none) :
    s.KeepsPairs (s.freeSlot i) where
  tagMap := by simp
  order ho := ho.mono (fun src => by simp) fun j sl hsl => by
    rw [State.slot_freeSlot] at hsl
    split at hsl
    · cases hsl
    · exact ⟨sl, hsl, rfl⟩
  holders _ q := by
    have count := s.countSlots_freeSlot i fun sl => sl.heldPair == some q
    have : (s.slot i).any (fun sl => sl.heldPair == some q) = false := by
      cases hs : s.slot i with
      | none => rfl
      | some sl => simp [h sl hs]
    simp only [this, Bool.toNat_false, Nat.add_zero] at count
    simp [State.holders, State.acksOf, count]

/-- A read that holds no pair can become FREE. -/
theorem State.freeSlot_keepsBooks {i : SlotId} {src tag charge line detached c}
    (h : s.slot i = some ⟨src, tag, charge, .read line detached c⟩) (hpair : detached = true ∨ c = .orphaned) :
    s.KeepsBooks (s.freeSlot i) where
  counts := State.freeSlot_keepsCounts fun sl hsl => by
    obtain rfl := Option.some.inj (h.symm.trans hsl)
    rfl
  pairs := State.freeSlot_keepsPairs fun sl hsl => by
    obtain rfl := Option.some.inj (h.symm.trans hsl)
    rw [Slot.heldPair_read, if_pos hpair]

theorem State.becomeReady_keepsBooks (s : State) (i : SlotId) : s.KeepsBooks (s.becomeReady i) := by
  unfold State.becomeReady
  split
  · next course h =>
    split
    · next hw =>
      have : course ≠ .orphaned := fun e => by simp [e, ReadCourse.isWaiting] at hw
      exact (State.setCourse_keepsBooks h .ready (.inr ⟨this, nofun⟩)).trans (State.pushIq_keepsBooks _ _)
    · exact .refl s
  · exact .refl s

theorem State.becomeReturned_keepsBooks (s : State) (i : SlotId) (r : ReadResult) (o : Bool) :
    s.KeepsBooks (s.becomeReturned i r o) := by
  unfold State.becomeReturned
  split
  · next detached course h =>
    split
    · exact .refl s
    · next hw =>
      have : course ≠ .orphaned := fun e => by simp [e, ReadCourse.isFetching] at hw
      split
      · exact (State.setCourse_keepsBooks h (.returned r o) (.inr ⟨this, nofun⟩)).trans (State.pushRrl_keepsBooks _ _)
      · next hd =>
        have hd : detached = true := by simpa using hd
        split
        · exact State.setCourse_keepsBooks h _ (.inl hd)
        · exact State.freeSlot_keepsBooks h (.inl hd)
  · exact .refl s

theorem State.wakeReads_keepsBooks (s : State) (l : List SlotId) : s.KeepsBooks (s.wakeReads l) :=
  .foldl State.becomeReady_keepsBooks l s

theorem State.serveAttached_keepsBooks (s : State) (l : List SlotId) (data : LineData) :
    s.KeepsBooks (s.serveAttached l data) :=
  .foldl (fun s i => s.becomeReturned_keepsBooks i (.ok data) false) l s

/-! ## Bundle records -/

@[simp] theorem State.acksOf_setRecord (s : State) (src src' : Source) (r : BundleRecord) :
    (s.setRecord src r).acksOf src' = if src' = src then r.acks else s.acksOf src' := by
  simp only [State.acksOf, State.record_setRecord]
  split <;> rfl

@[simp] theorem State.acksOf_sealRecord (s : State) (src src' : Source) :
    (s.sealRecord src).acksOf src' = s.acksOf src' := by
  unfold State.sealRecord
  split
  · next acks hold h =>
    have := s.acksOf_setRecord src src' (.sealed acks)
    simp only [State.acksOf, State.pushRrl_record] at this ⊢
    rw [this]
    split
    · next e => simp [e, h, BundleRecord.acks]
    · rfl
  · rfl
  · rfl

/-- A record that is not SEALED takes the acknowledgement, and no other record changes. -/
theorem State.acksOf_addAck {src : Source} (h : (s.record src).isSealed = false) (a : Ack) (src' : Source) :
    (s.addAck src a).acksOf src' = if src' = src then s.acksOf src ++ [a] else s.acksOf src' := by
  unfold State.addAck
  split
  · next hr =>
    have hacks : s.acksOf src = [] := by rw [State.acksOf, hr]; rfl
    dsimp only
    split <;> simp [hacks, BundleRecord.acks]
  · next acks _ hr =>
    have hacks : s.acksOf src = acks := by rw [State.acksOf, hr]; rfl
    dsimp only
    split <;> simp [hacks, BundleRecord.acks]
  · next hr => simp [hr, BundleRecord.isSealed] at h

theorem State.sealRecord_keepsBooks (s : State) (src : Source) : s.KeepsBooks (s.sealRecord src) :=
  ⟨.of_same, .of_acks fun src' => s.acksOf_sealRecord src src'⟩

theorem State.sealFilling_keepsBooks (s : State) : s.KeepsBooks s.sealFilling :=
  .foldl State.sealRecord_keepsBooks sources s

/-! ## Buffers -/

theorem State.setBuffer_keepsBooks {b : BufferId} {x y : Buffer} (h : s.buffer b = some x) (hk : x.KeptAs y) :
    s.KeepsBooks (s.setBuffer b (some y)) where
  counts := .of_buffers fun b' => by
    rw [State.buffer_setBuffer]
    split
    · next e => rw [e, h]; exact .some hk
    · exact buffersKept_of_eq rfl b'
  pairs := .of_same

theorem State.mapBuffer_keepsBooks (s : State) (b : BufferId) {f : Buffer → Buffer}
    (hf : ∀ x : Buffer, x.KeptAs (f x)) : s.KeepsBooks (s.setBuffer b ((s.buffer b).map f)) where
  counts := .of_buffers fun b' => by
    rw [State.buffer_setBuffer]
    split
    · next e =>
      rw [e]
      cases s.buffer b with
      | none => exact .none
      | some x => exact .some (hf x)
    · exact buffersKept_of_eq rfl b'
  pairs := .of_same

/-- Every buffer changes and keeps its merged count. -/
theorem State.mapBuffers_keepsCounts {f : Buffer → Buffer} (hf : ∀ x : Buffer, x.KeptAs (f x))
    (h : t.mb.buffers = tmap (Option.map f) s.mb.buffers) (htt : t.tt = s.tt := by simp) : s.KeepsCounts t :=
  .of_buffers (fun b => by
    rw [State.buffer, State.buffer, h, tget_tmap]
    cases tget s.mb.buffers b with
    | none => exact .none
    | some x => exact .some (hf x)) htt

theorem Buffer.mapFlushes_keptAs (f : List SlotId → List SlotId) (x : Buffer) : x.KeptAs (x.mapFlushes f) := by
  unfold Buffer.mapFlushes
  split <;> constructor <;> simp [Buffer.isOpen, Buffer.isOrphaned]

theorem State.offerBuffer_keepsBooks (s : State) (b : BufferId) : s.KeepsBooks (s.offerBuffer b) := by
  unfold State.offerBuffer
  split
  · next h =>
    split
    · refine .trans ?_ (State.pushIq_keepsBooks _ _)
      exact State.setBuffer_keepsBooks h ⟨rfl, nofun, nofun⟩
    · exact .refl s
  · exact .refl s

theorem State.offerNext_keepsBooks (s : State) (l : Line) : s.KeepsBooks (s.offerNext l) := by
  unfold State.offerNext
  split
  · exact s.offerBuffer_keepsBooks _
  · exact .refl s

theorem State.sealBuffer_keepsBooks (s : State) (b : BufferId) (cause : SealCause) :
    s.KeepsBooks (s.sealBuffer b cause) := by
  unfold State.sealBuffer
  split
  · next h =>
    refine .trans (.trans ?_ (State.bump_keepsBooks _ _)) (State.offerBuffer_keepsBooks _ b)
    exact State.setBuffer_keepsBooks h ⟨rfl, nofun, nofun⟩
  · exact .refl s

theorem State.sealBuffers_keepsBooks (s : State) (l : List BufferId) (cause : SealCause) :
    s.KeepsBooks (s.sealBuffers l cause) :=
  .foldl (fun s b => s.sealBuffer_keepsBooks b cause) l s

theorem State.sealOpen_keepsBooks (s : State) (cause : SealCause) : s.KeepsBooks (s.sealOpen cause) :=
  s.sealBuffers_keepsBooks bufferIds cause

theorem State.pressureRequest_keepsBooks (s : State) : s.KeepsBooks s.pressureRequest := by
  unfold State.pressureRequest
  split
  · exact s.sealBuffer_keepsBooks _ _
  · exact .refl s

/-! ## Flushes -/

theorem State.slot_completeFlush (s : State) (i j : SlotId) (src : Source) (tag : Tag) :
    (s.completeFlush i src tag).slot j = if j = i then none else s.slot j := by
  simp [State.completeFlush]

theorem State.flushOrder_completeFlush (s : State) (i : SlotId) (src src' : Source) (tag : Tag) :
    (s.completeFlush i src tag).flushOrder src'
      = if src' = src then (s.flushOrder src).drop 1 else s.flushOrder src' := by
  simp [State.completeFlush]

theorem State.acksOf_completeFlush {src : Source} (hr : (s.record src).isSealed = false) (i : SlotId) (tag : Tag)
    (src' : Source) :
    ((s.completeFlush i src tag).acksOf src').map Ack.tag
      = (s.acksOf src').map Ack.tag ++ if src' = src then [tag] else [] := by
  have hacks (u : State) : (u.freeSlot i).acksOf src' = u.acksOf src' := by simp [State.acksOf]
  simp only [State.completeFlush, State.acksOf_sealRecord, hacks]
  rw [State.acksOf_addAck (by simpa using hr)]
  split
  · next e => simp [e, State.acksOf]
  · simp [State.acksOf]

theorem State.completeFlush_keepsCounts {i : SlotId} {src : Source} (tag : Tag)
    (h : ∀ sl ∈ s.slot i, sl.mergedBuffer = none) : s.KeepsCounts (s.completeFlush i src tag) := by
  unfold State.completeFlush
  refine .trans (.trans ?_ (State.freeSlot_keepsCounts ?_)) (State.sealRecord_keepsBooks _ src).counts
  · exact .of_same
  · simpa using h

/-- A flush that completes hands its pair on: from its slot to the bundle record of its source (R53). -/
theorem State.completeFlush_keepsPairs {i : SlotId} {src src' : Source} {tag charge n}
    (h : s.slot i = some ⟨src', tag, charge, .flush n⟩) (hi : i ∈ s.flushOrder src)
    (hr : (s.record src).isSealed = false) : s.KeepsPairs (s.completeFlush i src tag) where
  tagMap := by simp
  order ho := by
    refine ho.mono (fun src'' j hj => ?_) fun j sl hsl => ?_
    · rw [State.flushOrder_completeFlush] at hj
      split at hj
      · next e => exact e ▸ List.mem_of_mem_drop hj
      · exact hj
    · rw [State.slot_completeFlush] at hsl
      split at hsl
      · cases hsl
      · exact ⟨sl, hsl, rfl⟩
  holders ho q := by
    obtain ⟨qsrc, qtag⟩ := q
    obtain rfl : src' = src := ho src i hi _ h rfl
    have count := State.countSlots_update (s := s) (t := s.completeFlush i src' tag) (i := i)
      (fun j hj => by simp [State.slot_completeFlush, hj]) fun sl => sl.heldPair == some (qsrc, qtag)
    have held : ((s.slot i).any fun sl => sl.heldPair == some (qsrc, qtag)).toNat
        = if src' = qsrc ∧ tag = qtag then 1 else 0 := by
      simp [h, Slot.heldPair, Bool.toNat]
    have noted : (((s.completeFlush i src' tag).acksOf qsrc).map Ack.tag).count qtag
        = ((s.acksOf qsrc).map Ack.tag).count qtag + if src' = qsrc ∧ tag = qtag then 1 else 0 := by
      rw [State.acksOf_completeFlush hr, List.count_append]
      by_cases hs : qsrc = src'
      · simp [hs, List.count_singleton]
      · simp [hs, Ne.symm hs]
    rw [held] at count
    simp only [State.slot_completeFlush, if_pos, Option.any_none, Bool.toNat_false, Nat.add_zero] at count
    simp only [State.holders, noted]
    omega

theorem State.checkFlush_keepsBooks (s : State) (src : Source) : s.KeepsBooks (s.checkFlush src) := by
  unfold State.checkFlush
  split
  · exact .refl s
  · next i rest hord =>
    split
    · next h =>
      split
      · exact .refl s
      · next hr =>
        exact ⟨State.completeFlush_keepsCounts _ (by simp [h, Slot.mergedBuffer]),
          State.completeFlush_keepsPairs h (by simp [hord]) (by simpa using hr)⟩
    · exact .refl s

theorem State.countDown_keepsBooks (s : State) (i : SlotId) : s.KeepsBooks (s.countDown i) := by
  unfold State.countDown
  split
  · next src tag charge n h =>
    have lowered : s.KeepsBooks (s.setSlot i (some ⟨src, tag, charge, .flush (n - 1)⟩)) :=
      ⟨State.setSlot_keepsCounts h rfl, State.setSlot_keepsPairs h rfl⟩
    dsimp only
    split
    · exact lowered.trans (State.checkFlush_keepsBooks _ src)
    · exact lowered
  · exact .refl s

theorem State.countDownAll_keepsBooks (s : State) (l : List SlotId) : s.KeepsBooks (s.countDownAll l) :=
  .foldl State.countDown_keepsBooks l s

/-! ## The end of a buffer -/

theorem mergedInto_eq_true {b : BufferId} {x : Option Slot} (h : mergedInto b x = true) :
    ∃ sl ∈ x, sl.mergedBuffer = some b := by
  cases x with
  | none => simp [mergedInto] at h
  | some sl => exact ⟨sl, rfl, by simpa [mergedInto_some] using h⟩

theorem Slot.heldPair_of_merged {sl : Slot} {b : BufferId} (h : sl.mergedBuffer = some b) : sl.heldPair = none := by
  obtain ⟨_, _, _, body⟩ := sl
  cases body with
  | write => rfl
  | read | flush => cases h

theorem State.freeMerged_keepsPairs (s : State) (b : BufferId) : s.KeepsPairs (s.freeMerged b) := by
  refine .foldl (fun u i => ?_) slotIds s
  split
  · next h =>
    obtain ⟨sl, hsl, hb⟩ := mergedInto_eq_true h
    refine State.freeSlot_keepsPairs fun sl' hsl' => ?_
    obtain rfl := Option.some.inj (hsl.symm.trans hsl')
    exact Slot.heldPair_of_merged hb
  · exact (State.KeepsBooks.refl u).pairs

theorem State.freeMerged_charged (b : BufferId) (h : s.Charged) : (s.freeMerged b).Charged := by
  refine foldl_invariant State.Charged _ (fun u i hu => ?_) slotIds s h
  split
  · exact State.freeSlot_charged i hu
  · exact hu

theorem State.mergedSlots_freeMerged (s : State) (b b' : BufferId) :
    (s.freeMerged b).mergedSlots b' = if b' = b then 0 else s.mergedSlots b' := by
  have merged (i : SlotId) : ((s.freeMerged b).slot i).any (fun sl => sl.mergedBuffer == some b')
      = (b' != b && (s.slot i).any fun sl => sl.mergedBuffer == some b') := by
    rw [State.slot_freeMerged]
    cases s.slot i with
    | none => simp [mergedInto]
    | some sl =>
      simp only [mergedInto_some, beq_iff_eq]
      split
      · next h => by_cases e : b' = b <;> simp [e, h, @eq_comm _ b]
      · next h => by_cases e : b' = b <;> simp [e, h]
  simp only [State.mergedSlots, State.countSlots, merged]
  by_cases e : b' = b
  · simp [e]
  · simp [e, bne_iff_ne.mpr e]

theorem State.freeMerged_countsBut (b : BufferId) (h : s.CountsLaw) : (s.freeMerged b).CountsBut b := by
  refine ⟨State.freeMerged_charged b h.1, by simp [State.mergedSlots_freeMerged], fun b' hb' => ?_⟩
  simpa [State.MergedAt, State.mergedSlots_freeMerged, hb'] using h.2 b'

/-- Emptied, buffer `b` may become FREE or ORPHANED. -/
theorem State.CountsBut.settle {b : BufferId} (hs : s.CountsBut b) (htt : t.tt = s.tt)
    (hb : ∀ x ∈ t.buffer b, x.merged = 0 ∧ x.isOpen = false) (hother : ∀ b', b' ≠ b → t.buffer b' = s.buffer b') :
    t.CountsLaw := by
  obtain ⟨hc, h0, hm⟩ := hs
  refine ⟨hc.congr htt, fun b' => ?_⟩
  by_cases e : b' = b
  · subst e
    rw [State.MergedAt, State.mergedSlots_congr htt, h0]
    refine ⟨fun _ => by rfl, fun x hx => ?_⟩
    obtain ⟨hx0, hxo⟩ := hb x hx
    simp [hx0, hxo]
  · exact (hm b' e).congr htt (hother b' e)

theorem State.freeBuffer_keepsPairs (s : State) (b : BufferId) (line : Line) (reads : List SlotId) :
    s.KeepsPairs (s.freeBuffer b line reads) :=
  .trans (.trans (s.wakeReads_keepsBooks reads).pairs (u := { s.wakeReads reads with
      mb := ⟨tset (s.wakeReads reads).mb.buffers b none, (s.wakeReads reads).mb.ageOrder.filter (· ≠ b)⟩ })
    (.of_same rfl rfl rfl)) (State.offerNext_keepsBooks _ line).pairs

theorem State.freeBuffer_countsLaw {b : BufferId} (line : Line) (reads : List SlotId) (h : s.CountsBut b) :
    (s.freeBuffer b line reads).CountsLaw := by
  have woken := (s.wakeReads_keepsBooks reads).counts.countsBut h
  refine (State.offerNext_keepsBooks _ line).counts.countsLaw (woken.settle rfl ?_ fun b' hb' => ?_)
  · simp [State.buffer]
  · simp [State.buffer, tget_tset, hb']

theorem State.resolveBuffer_keepsPairs (s : State) (b : BufferId) (line : Line) (flushes reads : List SlotId) :
    s.KeepsPairs (s.resolveBuffer b line flushes reads) :=
  .trans (.trans (s.freeMerged_keepsPairs b) (State.countDownAll_keepsBooks _ flushes).pairs)
    (State.freeBuffer_keepsPairs _ b line reads)

theorem State.resolveBuffer_countsLaw (b : BufferId) (line : Line) (flushes reads : List SlotId) (h : s.CountsLaw) :
    (s.resolveBuffer b line flushes reads).CountsLaw :=
  State.freeBuffer_countsLaw line reads
    ((State.countDownAll_keepsBooks _ flushes).counts.countsBut (State.freeMerged_countsBut b h))

end Sys2Proof.Machine
end

section
/-! The commands other than DECISION: what keeps the books, the entries into the RQ, and the losses of the links. -/

-- as in the tests: one thread for the proofs, since the check's memory limit leaves no room for one thread each
set_option Elab.async false

namespace Sys2Proof.Machine

variable {s t : State}

/-! ## Answers of memory -/

theorem State.strayAnswer_keepsBooks (s : State) (d : Dtag) : s.KeepsBooks (s.strayAnswer d) :=
  .trans (s.logNotice_keepsBooks _) (State.bump_keepsBooks _ _)

theorem State.answerSlot_keepsBooks (s : State) (i : SlotId) (status : FetchStatus) (data : LineData) :
    s.KeepsBooks (s.answerSlot i status data) := by
  unfold State.answerSlot
  split
  · cases status with
    | ok => exact s.becomeReturned_keepsBooks i _ false
    | poison => exact (s.logNotice_keepsBooks _).trans (State.becomeReturned_keepsBooks _ i _ false)
  · exact .refl s

theorem State.lateSlot_keepsBooks (s : State) (i : SlotId) : s.KeepsBooks (s.lateSlot i) := by
  unfold State.lateSlot State.logLate
  split
  · next h =>
    refine .trans (s.logNotice_keepsBooks _)
      (State.setCourse_keepsBooks ((State.logNotice_slot ..).trans h) _ (.inr ⟨by simp, by simp⟩))
  · next h =>
    exact .trans (s.logNotice_keepsBooks _) (State.freeSlot_keepsBooks ((State.logNotice_slot ..).trans h) (.inr rfl))
  · exact .refl s

theorem State.poisonEntry_keepsBooks (s : State) (e : EntryId) (line : Line) (src : Source) (attached : List SlotId) :
    s.KeepsBooks (s.poisonEntry e line src attached) :=
  .trans (.trans (s.logNotice_keepsBooks _) (State.wakeReads_keepsBooks _ attached))
    (State.setEntry_keepsBooks _ e none)

theorem State.holdEntry_keepsBooks (s : State) (e : EntryId) (line : Line) (src : Source) (data : LineData) :
    s.KeepsBooks (s.holdEntry e line src data) := .of_same

theorem State.answerEntry_keepsBooks (s : State) (e : EntryId) (status : FetchStatus) (data : LineData) :
    s.KeepsBooks (s.answerEntry e status data) := by
  unfold State.answerEntry
  split
  · cases status with
    | ok => exact (s.serveAttached_keepsBooks _ data).trans (State.holdEntry_keepsBooks _ e _ _ data)
    | poison => exact s.poisonEntry_keepsBooks e _ _ _
  · cases status with
    | ok => exact (s.serveAttached_keepsBooks _ data).trans (State.setEntry_keepsBooks _ e none)
    | poison => exact s.poisonEntry_keepsBooks e _ _ _
  · exact .refl s

theorem State.lateEntry_keepsBooks (s : State) (e : EntryId) : s.KeepsBooks (s.lateEntry e) := by
  unfold State.lateEntry State.logLate
  split
  · exact (s.logNotice_keepsBooks _).trans (State.setEntry_keepsBooks _ e none)
  · exact .refl s

theorem State.takeFetchData_keepsBooks (s : State) (d : Dtag) (status : FetchStatus) (data : LineData) :
    s.KeepsBooks (s.takeFetchData d status data) := by
  unfold State.takeFetchData
  split
  · next i _ =>
    split
    · exact (s.dtagFree_keepsBooks d).trans (State.answerSlot_keepsBooks _ i status data)
    · split
      · exact (s.dtagFree_keepsBooks d).trans (State.lateSlot_keepsBooks _ i)
      · exact s.strayAnswer_keepsBooks d
  · next e _ =>
    split
    · exact (s.dtagFree_keepsBooks d).trans (State.answerEntry_keepsBooks _ e status data)
    · split
      · exact (s.dtagFree_keepsBooks d).trans (State.lateEntry_keepsBooks _ e)
      · exact s.strayAnswer_keepsBooks d
  · exact s.strayAnswer_keepsBooks d
  · exact s.strayAnswer_keepsBooks d

/-- From `s` to `t` the counts' law and the holders of the pairs are kept, though merged writes may end. -/
structure State.KeepsLaws (s t : State) : Prop where
  counts : s.CountsLaw → t.CountsLaw
  pairs : s.KeepsPairs t

theorem State.KeepsBooks.laws (h : s.KeepsBooks t) : s.KeepsLaws t := ⟨h.counts.countsLaw, h.pairs⟩

theorem State.KeepsLaws.trans {u : State} (h : s.KeepsLaws t) (h' : t.KeepsLaws u) : s.KeepsLaws u :=
  ⟨h'.counts ∘ h.counts, h.pairs.trans h'.pairs⟩

theorem State.KeepsLaws.refl (s : State) : s.KeepsLaws s := (KeepsBooks.refl s).laws

theorem State.KeepsLaws.foldl {α : Type} {g : State → α → State} (h : ∀ (s : State) x, s.KeepsLaws (g s x)) (l : List α)
    (s : State) : s.KeepsLaws (l.foldl g s) :=
  foldl_invariant s.KeepsLaws g (fun t x ht => ht.trans (h t x)) l s (.refl s)

theorem State.resolveBuffer_keepsLaws (s : State) (b : BufferId) (line : Line) (flushes reads : List SlotId) :
    s.KeepsLaws (s.resolveBuffer b line flushes reads) :=
  ⟨State.resolveBuffer_countsLaw b line flushes reads, s.resolveBuffer_keepsPairs b line flushes reads⟩

/-- An ORPHANED buffer has no slot left. -/
theorem State.MergedAt.mergedSlots_orphaned {b : BufferId} {x : Buffer} (h : s.MergedAt b) (hb : s.buffer b = some x)
    (ho : x.isOrphaned = true) : s.mergedSlots b = 0 := by
  obtain ⟨hm, -, -, h0⟩ := h.2 x hb
  exact hm.symm.trans (h0 ho)

theorem State.freeOrphaned_keepsLaws {b : BufferId} {x : Buffer} (hb : s.buffer b = some x) (ho : x.isOrphaned = true)
    (line : Line) (reads : List SlotId) : s.KeepsLaws (s.freeBuffer b line reads) where
  counts h := State.freeBuffer_countsLaw line reads
    ⟨h.1, (h.2 b).mergedSlots_orphaned hb ho, fun b' _ => h.2 b'⟩
  pairs := s.freeBuffer_keepsPairs b line reads

theorem State.answerBuffer_keepsLaws (s : State) (b : BufferId) (status : StoreStatus) :
    s.KeepsLaws (s.answerBuffer b status) := by
  unfold State.answerBuffer
  split
  · cases status with
    | ok => exact s.resolveBuffer_keepsLaws b _ _ _
    | fail =>
      refine .trans (State.KeepsBooks.laws ?_) (State.resolveBuffer_keepsLaws _ b _ _ _)
      exact .trans (.trans (s.setLatches_keepsBooks _) (State.logNotice_keepsBooks _ _)) (State.bump_keepsBooks _ _)
  · exact .refl s

theorem State.lateBuffer_keepsLaws (s : State) (b : BufferId) : s.KeepsLaws (s.lateBuffer b) := by
  unfold State.lateBuffer State.logLate
  split
  · next h =>
    exact .trans (s.logNotice_keepsBooks _).laws
      (State.freeOrphaned_keepsLaws ((State.logNotice_buffer ..).trans h) rfl _ _)
  · exact .refl s

theorem State.takeStoreDone_keepsLaws (s : State) (d : Dtag) (status : StoreStatus) :
    s.KeepsLaws (s.takeStoreDone d status) := by
  unfold State.takeStoreDone
  split
  · next b _ =>
    split
    · exact (s.dtagFree_keepsBooks d).laws.trans (State.answerBuffer_keepsLaws _ b status)
    · split
      · exact (s.dtagFree_keepsBooks d).laws.trans (State.lateBuffer_keepsLaws _ b)
      · exact (s.strayAnswer_keepsBooks d).laws
  all_goals exact (s.strayAnswer_keepsBooks d).laws

/-! ## Timers -/

theorem State.timeoutSlot_keepsBooks (s : State) (i : SlotId) : s.KeepsBooks (s.timeoutSlot i) := by
  unfold State.timeoutSlot
  split
  · exact .trans (.trans (.trans (s.dtagOrphan_keepsBooks _) (State.logNotice_keepsBooks _ _))
      (State.bump_keepsBooks _ _)) (State.becomeReturned_keepsBooks _ i _ true)
  · exact .refl s

/-- A buffer that becomes ORPHANED ends its merge and counts its flushes down (R41). -/
theorem State.orphanBuffer_keepsLaws (s : State) (b : BufferId) (flushes : List SlotId) {x : Buffer}
    (hx : x.merged = 0 ∧ x.isOpen = false) :
    s.KeepsLaws (((s.freeMerged b).countDownAll flushes).setBuffer b (some x)) where
  counts h := by
    refine ((State.countDownAll_keepsBooks _ flushes).counts.countsBut (State.freeMerged_countsBut b h)).settle
      rfl ?_ fun b' hb' => ?_
    · simpa using hx
    · simp [hb']
  pairs := .trans (.trans (s.freeMerged_keepsPairs b) (State.countDownAll_keepsBooks _ flushes).pairs)
    (.of_same rfl rfl rfl)

theorem State.timeoutBuffer_keepsLaws (s : State) (b : BufferId) : s.KeepsLaws (s.timeoutBuffer b) := by
  unfold State.timeoutBuffer
  split
  · refine .trans (State.KeepsBooks.laws ?_) (State.orphanBuffer_keepsLaws _ b _ ⟨rfl, rfl⟩)
    exact .trans (.trans (.trans (s.dtagOrphan_keepsBooks _) (State.setLatches_keepsBooks _ _))
      (State.logNotice_keepsBooks _ _)) (State.bump_keepsBooks _ _)
  · exact .refl s

theorem State.orphanEntry_keepsBooks (s : State) (e : EntryId) (line : Line) (src : Source) (attached : List SlotId) :
    s.KeepsBooks (s.orphanEntry e line src attached) :=
  .trans (.trans (.trans (s.dtagOrphan_keepsBooks _) (State.logNotice_keepsBooks _ _))
    (State.wakeReads_keepsBooks _ attached)) (State.setEntry_keepsBooks _ e _)

theorem State.timeoutEntry_keepsBooks (s : State) (e : EntryId) : s.KeepsBooks (s.timeoutEntry e) := by
  unfold State.timeoutEntry
  split
  · exact s.orphanEntry_keepsBooks e _ _ _
  · exact s.orphanEntry_keepsBooks e _ _ _
  · exact .refl s

theorem State.expireEntry_keepsBooks (s : State) (e : EntryId) : s.KeepsBooks (s.expireEntry e) := by
  unfold State.expireEntry
  split
  · exact s.setEntry_keepsBooks e none
  · exact .refl s

theorem Slot.account_tick (sl : Slot) : sl.tick.account = sl.account := by
  unfold Slot.tick
  split <;> rfl

theorem Slot.claim_tick (sl : Slot) : sl.tick.claim = sl.claim := by
  unfold Slot.tick
  split
  · next detached _ => cases detached <;> rfl
  · rfl

theorem Buffer.keptAs_tick (x : Buffer) : x.KeptAs x.tick := by
  unfold Buffer.tick
  split <;> constructor <;> simp [*, Buffer.isOpen, Buffer.isOrphaned]

theorem BundleRecord.acks_tick (r : BundleRecord) : r.tick.acks = r.acks := by
  cases r <;> rfl

theorem State.tick_keepsBooks (s : State) : s.KeepsBooks s.tick := by
  have hmap {α : Type} {f : Slot → α} (hf : ∀ sl : Slot, f sl.tick = f sl) (i : SlotId) :
      (s.tick.slot i).map f = (s.slot i).map f := by
    simp only [State.slot_tick, Option.map_map, Function.comp_def, hf]
  refine ⟨.of_accounts (hmap Slot.account_tick) (by rw [State.tick]) (by rw [State.tick]) fun b => ?_,
    .of_claims (hmap Slot.claim_tick) (by rw [State.tick]) (by rw [State.tick]) fun src => ?_⟩
  · rw [State.buffer_tick]
    cases s.buffer b with
    | none => exact .none
    | some x => exact .some x.keptAs_tick
  · rw [State.acksOf, State.record_tick, BundleRecord.acks_tick, State.acksOf]

/-! ## Departures -/

theorem State.departHead_keepsBooks (s : State) : s.KeepsBooks s.departHead := by
  have depart (d : Dtag) (m : MemMsg) : s.KeepsBooks (s.depart d m) := .of_same rfl rfl rfl rfl
  have departSlot (d : Dtag) (m : MemMsg) (i : SlotId) : (s.depart d m).slot i = s.slot i := rfl
  have departBuffer (d : Dtag) (m : MemMsg) (b : BufferId) : (s.depart d m).buffer b = s.buffer b := rfl
  unfold State.departHead
  split
  · exact .refl s
  · split
    · next h =>
      exact .trans (.trans (depart _ _) (State.setCourse_keepsBooks ((departSlot _ _ _).trans h) _
        (.inr ⟨by simp, by simp⟩))) (State.bump_keepsBooks _ _)
    · exact .refl s
  · split
    · next h =>
      exact .trans (.trans (depart _ _) (State.setBuffer_keepsBooks ((departBuffer _ _ _).trans h)
        ⟨by rfl, by simp [Buffer.isOpen], by simp [Buffer.isOrphaned]⟩)) (State.bump_keepsBooks _ _)
    · exact .refl s
  · split
    · exact .trans (.trans (depart _ _) (State.setEntry_keepsBooks _ _ _)) (State.bump_keepsBooks _ _)
    · exact .trans (.trans (depart _ _) (State.setEntry_keepsBooks _ _ _)) (State.bump_keepsBooks _ _)
    · exact .refl s

theorem State.departRq_keepsBooks (s : State) : s.KeepsBooks s.departRq := by
  unfold State.departRq
  split
  · exact .refl s
  · exact .of_same rfl rfl rfl rfl

end Sys2Proof.Machine
end

section
/-! The losses of the links, the entries of the RRL head into the RQ, and what each command does to the books. -/

-- as in the tests: one thread for the proofs, since the check's memory limit leaves no room for one thread each
set_option Elab.async false

namespace Sys2Proof.Machine

variable {s t : State}

/-! ## The tag map is no part of the counts -/

theorem State.slot_setTagMap (s : State) (m : List (Source × Tag)) (i : SlotId) :
    State.slot { s with tt.tagMap := m } i = s.slot i := rfl

theorem State.setTagMap_keepsCounts (s : State) (m : List (Source × Tag)) : s.KeepsCounts { s with tt.tagMap := m } :=
  .of_accounts (fun _ => rfl) rfl rfl (buffersKept_of_eq rfl)

/-! ## Responses that are handed on -/

/-- The tag map's law after pairs have left the tag map and their holders have let them go. -/
theorem State.TagLaw.drop (hs : s.TagLaw) (gone : Source × Tag → Bool)
    (hmap : t.tt.tagMap = s.tt.tagMap.filter fun q => !gone q)
    (hgone : ∀ q, gone q = true → t.holders q < s.holders q)
    (hkept : ∀ q, gone q = false → t.holders q = s.holders q) : t.TagLaw := by
  obtain ⟨hnd, hq⟩ := State.tagLaw_iff.mp hs
  rw [State.tagLaw_iff, hmap]
  refine ⟨hnd.filter _, fun q => ?_⟩
  have one := hq q
  cases hg : gone q with
  | true =>
    have less := hgone q hg
    have : s.holders q ≤ 1 := by rw [one]; split <;> omega
    simp [hg]; omega
  | false => simpa [hg, hkept q hg] using one

/-- The pairs of a bundle leave the tag map, all at once (R127). -/
theorem State.dropPairs_eq (s : State) (src : Source) (acks : List Ack) :
    s.dropPairs src acks = { s with
      tt.tagMap := s.tt.tagMap.filter fun q => !(q.1 == src && (acks.map Ack.tag).contains q.2) } := by
  unfold State.dropPairs
  induction acks generalizing s with
  | nil => simp
  | cons a acks ih =>
    rw [List.foldl_cons, ih]
    simp only [State.dropPair, List.filter_filter]
    congr 3
    funext q
    obtain ⟨qsrc, qtag⟩ := q
    by_cases h : qsrc = src <;> by_cases h' : qtag = a.tag <;> simp [h, h']

theorem State.enterRead_keepsCounts (s : State) : s.KeepsCounts s.enterRead := by
  unfold State.enterRead
  split
  · next i _ _ =>
    split
    · next src tag _ _ _ r orphan h =>
      have entered : s.KeepsCounts ((s.enterRq (.readReturn src tag r)).dropPair src tag) :=
        .of_accounts (fun _ => rfl) rfl rfl (buffersKept_of_eq rfl)
      have same (j : SlotId) : ((s.enterRq (.readReturn src tag r)).dropPair src tag).slot j = s.slot j := rfl
      dsimp only
      split
      · exact entered.trans (State.setCourse_keepsCounts _ i .orphaned)
      · refine entered.trans (State.freeSlot_keepsCounts ?_)
        simp [same, h, Slot.mergedBuffer]
    · exact (KeepsBooks.refl s).counts
  · exact (KeepsBooks.refl s).counts

/-- The tag map's law after one slot's pair has left the tag map and the slot holds none. -/
theorem State.TagLaw.release (hs : s.TagLaw) {i : SlotId} {sl : Slot} {q : Source × Tag} (hi : s.slot i = some sl)
    (hq : sl.heldPair = some q) (htag : t.tt.tagMap = s.tt.tagMap.filter (· ≠ q))
    (hrec : t.resp.records = s.resp.records) (hother : ∀ j, j ≠ i → t.slot j = s.slot j)
    (hnone : ∀ sl' ∈ t.slot i, sl'.heldPair = none) : t.TagLaw := by
  have count (q' : Source × Tag) : t.holders q' + (if q' = q then 1 else 0) = s.holders q' := by
    have update := State.countSlots_update hother fun sl' => sl'.heldPair == some q'
    have before : ((s.slot i).any fun sl' => sl'.heldPair == some q').toNat = if q' = q then 1 else 0 := by
      simp [hi, hq, Bool.toNat, @eq_comm _ q]
    have after : ((t.slot i).any fun sl' => sl'.heldPair == some q') = false := by
      cases ht : t.slot i with
      | none => rfl
      | some sl' => simp [hnone sl' ht]
    have acks : t.acksOf q'.1 = s.acksOf q'.1 := by rw [State.acksOf, State.acksOf, State.record, State.record, hrec]
    rw [before, after, Bool.toNat_false] at update
    simp only [State.holders, acks]
    omega
  refine hs.drop (fun q' => Decidable.decide (q' = q)) (by simpa using htag) (fun q' hg => ?_) fun q' hg => ?_
  · have := count q'
    rw [if_pos (of_decide_eq_true hg)] at this
    omega
  · simpa [of_decide_eq_false hg] using count q'

/-- A read that enters the RQ takes its pair out of the tag map and out of its slot (R126). -/
theorem State.enterRead_tagLaw (hrrl : s.RrlLaw) (hs : s.TagLaw) : s.enterRead.TagLaw := by
  unfold State.enterRead
  split
  · next i _ _ =>
    split
    · next src tag _ _ detached r _ h =>
      have kept : detached = false := by
        have := hrrl.2.2 i _ h
        cases detached with
        | false => rfl
        | true => simp [Slot.isDetachedAnswer] at this
      subst kept
      have entered (j : SlotId) : ((s.enterRq (.readReturn src tag r)).dropPair src tag).slot j = s.slot j := rfl
      dsimp only
      split
      · rw [State.setCourse_of_read ((entered i).trans h)]
        refine hs.release h rfl rfl rfl (fun j hj => by simp [entered, hj]) ?_
        simp [Slot.heldPair_read]
      · refine hs.release h rfl (State.freeSlot_tt_tagMap ..) ?_ (fun j hj => by simp [entered, hj]) ?_
        · rw [State.freeSlot_resp]
          rfl
        · simp
    · exact hs
  · exact hs

theorem State.enterBundle_keepsCounts (s : State) : s.KeepsCounts s.enterBundle := by
  unfold State.enterBundle
  split
  · split
    · refine .trans ?_ (State.checkFlush_keepsBooks _ _).counts
      rw [State.dropPairs_eq]
      exact .of_accounts (fun _ => rfl) rfl rfl (buffersKept_of_eq rfl)
    · exact (KeepsBooks.refl s).counts
    · exact (KeepsBooks.refl s).counts
  · exact (KeepsBooks.refl s).counts

theorem State.holders_setRecord_empty (s : State) (src : Source) (q : Source × Tag) :
    (s.setRecord src .empty).holders q = s.countSlots (fun sl => sl.heldPair == some q)
      + if q.1 = src then 0 else ((s.acksOf q.1).map Ack.tag).count q.2 := by
  rw [State.holders, State.acksOf_setRecord]
  split <;> rfl

/-- A bundle that enters the RQ takes its pairs out of the tag map and out of its record (R127). -/
theorem State.enterBundle_tagLaw (hord : s.OrderOwn) (hs : s.TagLaw) : s.enterBundle.TagLaw := by
  unfold State.enterBundle
  split
  · next src _ _ =>
    split
    · next acks h =>
      rw [State.dropPairs_eq]
      refine (State.checkFlush_keepsBooks _ src).pairs.tagLaw hord ?_
      have hacks : s.acksOf src = acks := by rw [State.acksOf, h]; rfl
      refine hs.drop (fun q => q.1 == src && (acks.map Ack.tag).contains q.2) rfl (fun q hq => ?_) fun q hq => ?_
      · obtain ⟨hsrc, htag⟩ : q.1 = src ∧ q.2 ∈ acks.map Ack.tag := by simpa using hq
        have : 0 < (acks.map Ack.tag).count q.2 := List.count_pos_iff.mpr htag
        rw [State.holders_setRecord_empty, if_pos hsrc, State.holders, hsrc, hacks]
        exact Nat.add_lt_add_left this _
      · rw [State.holders_setRecord_empty, State.holders]
        split
        · next hsrc =>
          have : (acks.map Ack.tag).count q.2 = 0 := List.count_eq_zero.mpr (by simpa [hsrc] using hq)
          rw [hsrc, hacks, this]
          rfl
        · rfl
    · exact hs
    · exact hs
  · exact hs

/-! ## The H-link's loss -/

theorem State.detachSlot_countsLaw (i : SlotId) (h : s.CountsLaw) : (s.detachSlot i).CountsLaw := by
  unfold State.detachSlot
  split
  · next src tag charge line detached course hi =>
    split
    · split
      · exact (s.setCourse_keepsCounts i .orphaned).countsLaw h
      · exact (State.freeSlot_keepsCounts (by simp [hi, Slot.mergedBuffer])).countsLaw h
    · exact h
    all_goals
      exact (State.setSlot_keepsCounts hi (sl' := ⟨src, tag, charge, .read line true _⟩) rfl).countsLaw h
  · next hi => exact (State.freeSlot_keepsCounts (by simp [hi, Slot.mergedBuffer])).countsLaw h
  · exact h
  · exact h

theorem State.detachAll_countsLaw (h : s.CountsLaw) : s.detachAll.CountsLaw := by
  have fold := foldl_invariant State.CountsLaw State.detachSlot (fun _ i => State.detachSlot_countsLaw i) slotIds s h
  exact (State.setTagMap_keepsCounts _ []).countsLaw fold

theorem State.dropLanes_keepsBooks (s : State) : s.KeepsBooks s.dropLanes := by
  refine .trans ?_ (State.logNotice_keepsBooks _ _)
  exact .of_same rfl rfl rfl rfl

theorem State.dropFlushes_keepsCounts (s : State) : s.KeepsCounts s.dropFlushes := by
  unfold State.dropFlushes
  exact State.mapBuffers_keepsCounts (Buffer.mapFlushes_keptAs fun _ => []) rfl rfl

theorem State.dropResponses_keepsCounts (s : State) : s.KeepsCounts s.dropResponses := .of_same rfl rfl

theorem State.hLinkLost_countsLaw (h : s.CountsLaw) : s.hLinkLost.CountsLaw := by
  have detached := State.detachAll_countsLaw (s.dropLanes_keepsBooks.counts.countsLaw h)
  exact (State.checkQuiet_keepsBooks _).counts.countsLaw
    ((State.dropResponses_keepsCounts _).countsLaw ((State.dropFlushes_keepsCounts _).countsLaw detached))

theorem State.slot_detachSlot_of_ne (s : State) {i j : SlotId} (h : j ≠ i) : (s.detachSlot i).slot j = s.slot j := by
  unfold State.detachSlot
  split
  · split
    · split
      · exact s.slot_setCourse_of_ne _ h
      · simp [h]
    · rfl
    all_goals simp [h]
  · simp [h]
  · rfl
  · rfl

/-- A slot that H-link down has passed holds no pair (R21). -/
theorem State.heldPair_detachSlot_self (s : State) (i : SlotId) :
    ((s.detachSlot i).slot i).bind Slot.heldPair = none := by
  unfold State.detachSlot
  split
  · next hi =>
    split
    · split
      · rw [State.setCourse_of_read hi]
        simp [Slot.heldPair_read]
      · simp
    · simp [hi, Slot.heldPair_read]
    all_goals simp [Slot.heldPair_read]
  · simp
  · next hi => simp [hi, Slot.heldPair]
  · next hi => simp [hi]

theorem State.heldPair_detachAll (s : State) (i : SlotId) : (s.detachAll.slot i).bind Slot.heldPair = none := by
  have each := foldl_pointwise (fun s i => (s.slot i).bind Slot.heldPair) State.detachSlot (fun _ _ => none)
    (fun u i j => by
      split
      · next e => exact e ▸ u.heldPair_detachSlot_self i
      · next e => rw [u.slot_detachSlot_of_ne e]) slotIds slotIds_nodup s i
  rw [if_pos (mem_slotIds i)] at each
  rw [State.detachAll, State.slot_setTagMap]
  exact each

@[simp] theorem State.dropFlushes_tt (s : State) : s.dropFlushes.tt = s.tt := by rw [State.dropFlushes]
@[simp] theorem State.dropResponses_tt (s : State) : s.dropResponses.tt = s.tt := rfl

/-- H-link down leaves no pair and no holder of one (R21, R134). -/
theorem State.hLinkLost_tagLaw (s : State) : s.hLinkLost.TagLaw := by
  have htt : s.hLinkLost.tt = s.dropLanes.detachAll.tt := by simp [State.hLinkLost]
  have hmap : s.hLinkLost.tt.tagMap = [] := by rw [htt]; rfl
  rw [State.tagLaw_iff, hmap]
  refine ⟨List.nodup_nil, fun q => ?_⟩
  have slots : s.hLinkLost.countSlots (fun sl => sl.heldPair == some q) = 0 := by
    refine List.countP_eq_zero.mpr fun i _ => ?_
    have := s.dropLanes.heldPair_detachAll i
    rw [State.slot_congr htt]
    cases h : s.dropLanes.detachAll.slot i with
    | none => simp
    | some sl =>
      rw [h] at this
      simp [show sl.heldPair = none from this]
  have acks : s.hLinkLost.acksOf q.1 = [] := by
    simp [State.acksOf, State.hLinkLost, State.dropResponses, State.record, BundleRecord.acks]
  simp [State.holders, slots, acks]

/-! ## The M-link's loss -/

theorem State.endSlotRequest_keepsBooks (s : State) (i : SlotId) : s.KeepsBooks (s.endSlotRequest i) := by
  unfold State.endSlotRequest
  split
  · exact s.becomeReturned_keepsBooks i .linkDown false
  · next h => exact State.freeSlot_keepsBooks h (.inr rfl)
  · next h => exact State.setCourse_keepsBooks h _ (.inr ⟨nofun, nofun⟩)
  · exact .refl s

theorem State.endDrain_keepsLaws (s : State) (b : BufferId) : s.KeepsLaws (s.endDrain b) := by
  unfold State.endDrain
  split
  · exact .trans (State.KeepsBooks.trans (s.setLatches_keepsBooks _) (State.bump_keepsBooks _ _)).laws
      (State.resolveBuffer_keepsLaws _ b _ _ _)
  · next h => exact State.freeOrphaned_keepsLaws h rfl _ _
  · exact .refl s

theorem State.endHintFetch_keepsBooks (s : State) (e : EntryId) : s.KeepsBooks (s.endHintFetch e) := by
  have withdraw : s.KeepsBooks (s.withdraw (.entry e)) := .of_same rfl rfl rfl rfl
  unfold State.endHintFetch
  split
  · exact .trans (.trans withdraw (State.wakeReads_keepsBooks _ _)) (State.setEntry_keepsBooks _ e none)
  · exact .trans (.trans withdraw (State.wakeReads_keepsBooks _ _)) (State.setEntry_keepsBooks _ e none)
  · exact s.setEntry_keepsBooks e none
  · exact .refl s

theorem State.mLinkLost_keepsLaws (s : State) : s.KeepsLaws s.mLinkLost := by
  have port : s.KeepsBooks s.dropMPort := by
    refine .trans ?_ (State.logNotice_keepsBooks _ _)
    exact .of_same rfl rfl rfl rfl
  have reads := port.trans (.foldl State.endSlotRequest_keepsBooks slotIds s.dropMPort)
  have drains := reads.laws.trans (.foldl State.endDrain_keepsLaws bufferIds _)
  exact drains.trans (State.KeepsBooks.trans (.foldl State.endHintFetch_keepsBooks entryIds _)
    (State.checkQuiet_keepsBooks _)).laws

end Sys2Proof.Machine
end

section
/-! What the commands do to the books, said once for all of them. -/

-- as in the tests: one thread for the proofs, since the check's memory limit leaves no room for one thread each
set_option Elab.async false

namespace Sys2Proof.Machine

variable {s t : State}

/-! ## The meter -/

theorem State.setMeter_keepsBooks (s : State) (src : Source) (m : Meter) : s.KeepsBooks (s.setMeter src m) := .of_same

theorem State.judgeSource_keepsBooks (s : State) (src : Source) : s.KeepsBooks (s.judgeSource src) := by
  unfold State.judgeSource
  dsimp only
  split
  · exact s.setMeter_keepsBooks src _
  · exact .trans (s.setMeter_keepsBooks src _) (State.logNotice_keepsBooks _ _)

theorem State.startWindow_keepsBooks (s : State) : s.KeepsBooks s.startWindow := by
  unfold State.startWindow
  exact .of_same rfl rfl rfl rfl

theorem State.closeWindow_keepsBooks (s : State) : s.KeepsBooks s.closeWindow :=
  .trans (.foldl State.judgeSource_keepsBooks sources s) (State.startWindow_keepsBooks _)

theorem State.takeSample_keepsBooks (s : State) : s.KeepsBooks s.takeSample := by
  unfold State.takeSample
  dsimp only
  split
  · refine .trans ?_ (State.closeWindow_keepsBooks _)
    exact .of_same rfl rfl rfl rfl
  · exact .of_same rfl rfl rfl rfl

theorem State.restartWindow_keepsBooks (s : State) : s.KeepsBooks s.restartWindow := by
  refine .trans ?_ (State.startWindow_keepsBooks _)
  exact .of_same rfl rfl rfl rfl

theorem State.configureMeter_keepsBooks (s : State) (src : Source) (conf : MeterConf) :
    s.KeepsBooks (s.configureMeter src conf) := by
  unfold State.configureMeter
  dsimp only
  split
  · split
    · exact .trans (s.setMeter_keepsBooks src _) (State.logNotice_keepsBooks _ _)
    · exact s.setMeter_keepsBooks src _
  · exact s.setMeter_keepsBooks src _

/-! ## Arrivals -/

theorem State.receiveRead_keepsBooks (s : State) (src : Source) (tag : Option Tag) (line : Line) (req : ReadLaneReq) :
    s.KeepsBooks (s.receiveRead src tag line req) := by
  unfold State.receiveRead
  split
  · exact s.logNotice_keepsBooks _
  · exact .of_same rfl rfl rfl rfl

theorem State.receiveWrite_keepsBooks (s : State) (req : WriteReq) : s.KeepsBooks (s.receiveWrite req) := by
  unfold State.receiveWrite
  split
  · exact s.logNotice_keepsBooks _
  · exact .of_same rfl rfl rfl rfl

theorem State.receiveFlush_keepsBooks (s : State) (req : FlushReq) : s.KeepsBooks (s.receiveFlush req) := by
  unfold State.receiveFlush
  split
  · exact s.logNotice_keepsBooks _
  · exact .of_same rfl rfl rfl rfl

theorem State.grantHost_keepsBooks (s : State) (count : Nat) : s.KeepsBooks (s.grantHost count) := by
  unfold State.grantHost
  split
  · exact .of_same rfl rfl rfl rfl
  · refine .trans ?_ (State.logNotice_keepsBooks _ _)
    exact .of_same rfl rfl rfl rfl

theorem State.grantMem_keepsBooks (s : State) (count : Nat) : s.KeepsBooks (s.grantMem count) := by
  unfold State.grantMem
  split
  · exact .of_same rfl rfl rfl rfl
  · refine .trans ?_ (State.logNotice_keepsBooks _ _)
    exact .of_same rfl rfl rfl rfl

/-! ## The management port -/

theorem State.freeHeld_keepsBooks (s : State) : s.KeepsBooks s.freeHeld := .of_same

theorem State.writeTopLineLo_keepsBooks (s : State) (data : RegData) : s.KeepsBooks (s.writeTopLineLo data) := by
  unfold State.writeTopLineLo
  exact .of_same rfl rfl rfl rfl

theorem State.writeMergeEnable_keepsBooks (s : State) (data : RegData) : s.KeepsBooks (s.writeMergeEnable data) := by
  unfold State.writeMergeEnable
  split
  · exact .of_same rfl rfl rfl rfl
  · split
    · refine .trans ?_ (State.sealOpen_keepsBooks _ .disabled)
      exact .of_same rfl rfl rfl rfl
    · exact .refl s

theorem State.writeHintEnable_keepsBooks (s : State) (data : RegData) : s.KeepsBooks (s.writeHintEnable data) := by
  unfold State.writeHintEnable
  split
  · exact .of_same rfl rfl rfl rfl
  · split
    · refine .trans (.trans ?_ (State.freeHeld_keepsBooks _)) (State.checkQuiet_keepsBooks _)
      exact .of_same rfl rfl rfl rfl
    · exact .refl s

theorem State.writeMeterSample_keepsBooks (s : State) (data : RegData) : s.KeepsBooks (s.writeMeterSample data) := by
  refine .trans ?_ (State.restartWindow_keepsBooks _)
  exact .of_same rfl rfl rfl rfl

theorem State.writeMeterWindow_keepsBooks (s : State) (data : RegData) : s.KeepsBooks (s.writeMeterWindow data) := by
  refine .trans ?_ (State.restartWindow_keepsBooks _)
  exact .of_same rfl rfl rfl rfl

theorem State.commandQuiesce_keepsBooks (s : State) : s.KeepsBooks s.commandQuiesce := by
  unfold State.commandQuiesce
  split
  · refine .trans (.trans (.trans (.trans ?_ (State.sealOpen_keepsBooks _ .quiesce)) (State.freeHeld_keepsBooks _))
      (State.sealFilling_keepsBooks _)) (State.checkQuiet_keepsBooks _)
    exact .of_same rfl rfl rfl rfl
  · exact .refl s

theorem State.commandResume_keepsBooks (s : State) : s.KeepsBooks s.commandResume := by
  unfold State.commandResume
  split
  · exact .refl s
  · exact .of_same rfl rfl rfl rfl

theorem State.popNotice_keepsBooks (s : State) : s.KeepsBooks s.popNotice := .of_same

/-! ## Every command -/

/-- What a command can do to the books. -/
inductive State.BookMove (s : State) : State → Prop
  /-- The laws are kept: no pair is taken or handed on, and no slot is taken. -/
  | kept {t : State} (h : s.KeepsLaws t) : s.BookMove t
  /-- The part is reset (R170). -/
  | reset (commands : List Instr) : s.BookMove { State.reset with pending := commands }
  /-- The H-link is lost (R156). -/
  | hostLost {t : State} (h : s.hLinkLost.KeepsBooks t) : s.BookMove t
  /-- A decision is taken (R83). -/
  | decided : s.BookMove s.decide
  /-- A read enters the RQ (R126). -/
  | readEntered : s.BookMove s.enterRead.checkQuiet
  /-- A bundle enters the RQ (R127). -/
  | bundleEntered : s.BookMove s.enterBundle.checkQuiet

theorem State.KeepsBooks.move (h : s.KeepsBooks t) : s.BookMove t := .kept h.laws

theorem State.BookMove.of_same (htt : t.tt = s.tt) (hmb : t.mb.buffers = s.mb.buffers) (hord : t.fl.order = s.fl.order)
    (hrec : t.resp.records = s.resp.records) : s.BookMove t :=
  (KeepsBooks.of_same htt hmb hord hrec).move

theorem State.BookMove.refl (s : State) : s.BookMove s := (KeepsBooks.refl s).move

/-- A command with a condition answers one of two states. -/
theorem State.BookMove.of_ite {c : Prop} [Decidable c] {u u' : State}
    (h : (if c then Host.Outcome.next u else .next u' : Host.Outcome State Fault Refusal) = .next t)
    (hu : s.BookMove u) (hu' : s.BookMove u') : s.BookMove t := by
  split at h
  · cases h; exact hu
  · cases h; exact hu'

theorem State.BookMove.of_next {u : State} (h : (Host.Outcome.next u : Host.Outcome State Fault Refusal) = .next t)
    (hu : s.BookMove u) : s.BookMove t := by
  cases h; exact hu

theorem State.commandHLinkReset_move (s : State) : s.BookMove s.commandHLinkReset := by
  have restarted (u : State) (n : Nat) : u.KeepsBooks { u with hport.restarts := n } := .of_same rfl rfl rfl rfl
  unfold State.commandHLinkReset
  split
  · exact .hostLost (restarted _ _)
  · exact .refl s

theorem State.commandMLinkReset_move (s : State) : s.BookMove s.commandMLinkReset := by
  have restarted (u : State) (n : Nat) : u.KeepsBooks { u with mport.restarts := n } := .of_same rfl rfl rfl rfl
  unfold State.commandMLinkReset
  split
  · exact .kept (s.mLinkLost_keepsLaws.trans (restarted _ _).laws)
  · exact .refl s

theorem State.writeCommand_move (s : State) (code : Nat) : s.BookMove (s.writeCommand code) := by
  unfold State.writeCommand
  split
  · exact .of_same rfl rfl rfl rfl
  · exact .of_same rfl rfl rfl rfl
  · exact s.commandQuiesce_keepsBooks.move
  · exact s.commandResume_keepsBooks.move
  · exact s.commandHLinkReset_move
  · exact s.commandMLinkReset_move
  · exact .refl s

theorem State.writeRegister_move (s : State) (number : BitVec 8) (data : RegData) :
    s.BookMove (s.writeRegister number data) := by
  unfold State.writeRegister
  split
  · exact (s.configureMeter_keepsBooks _ _).move
  · unfold State.writeLow
    split
    -- register k stands in case k + 1; the writes not named only set fields of the management block
    case h_1 => exact (s.writeTopLineLo_keepsBooks data).move
    case h_3 => exact (s.writeMergeEnable_keepsBooks data).move
    case h_5 => exact (s.writeHintEnable_keepsBooks data).move
    case h_9 => exact (s.writeMeterSample_keepsBooks data).move
    case h_10 => exact (s.writeMeterWindow_keepsBooks data).move
    case h_12 => exact s.writeCommand_move _
    all_goals exact .of_same rfl rfl rfl rfl

theorem exec_move {i : Instr} (h : exec i s = .next t) : s.BookMove t := by
  cases i with
  | coldReset => exact .of_next h (.reset _)
  | hLinkUp => exact .of_ite h (.refl s) (.of_same rfl rfl rfl rfl)
  | hLinkDown => exact .of_ite h (.hostLost (.refl _)) (.refl s)
  | mLinkUp => exact .of_ite h (.refl s) (.of_same rfl rfl rfl rfl)
  | mLinkDown => exact .of_ite h (.kept s.mLinkLost_keepsLaws) (.refl s)
  | read | hint => exact .of_ite h (s.receiveRead_keepsBooks _ _ _ _).move (.refl s)
  | write | maskedWrite => exact .of_ite h (s.receiveWrite_keepsBooks _).move (.refl s)
  | flush => exact .of_ite h (s.receiveFlush_keepsBooks _).move (.refl s)
  | hGrant count => exact .of_ite h (s.grantHost_keepsBooks count).move (.refl s)
  | fetchData d status data =>
    exact .of_ite h ((s.takeFetchData_keepsBooks d status data).trans (State.checkQuiet_keepsBooks _)).move (.refl s)
  | storeDone d status =>
    exact .of_ite h (.kept ((s.takeStoreDone_keepsLaws d status).trans (State.checkQuiet_keepsBooks _).laws)) (.refl s)
  | mGrant count => exact .of_ite h (s.grantMem_keepsBooks count).move (.refl s)
  | noticePop =>
    refine .of_next h (State.KeepsBooks.trans ?_ (State.popNotice_keepsBooks _)).move
    exact .of_same rfl rfl rfl rfl
  | topLineLo data => exact .of_next h (s.writeTopLineLo_keepsBooks data).move
  | clearCounters | clearLost | topLineHi | irqEnable =>
    exact .of_next h (.of_same rfl rfl rfl rfl)
  | quiesce => exact .of_next h s.commandQuiesce_keepsBooks.move
  | resume => exact .of_next h s.commandResume_keepsBooks.move
  | hLinkReset => exact .of_next h s.commandHLinkReset_move
  | mLinkReset => exact .of_next h s.commandMLinkReset_move
  | mergeEnable data => exact .of_next h (s.writeMergeEnable_keepsBooks data).move
  | hintEnable data => exact .of_next h (s.writeHintEnable_keepsBooks data).move
  | meterSample data => exact .of_next h (s.writeMeterSample_keepsBooks data).move
  | meterWindow data => exact .of_next h (s.writeMeterWindow_keepsBooks data).move
  | meterConf src data => exact .of_next h (s.configureMeter_keepsBooks src _).move
  | registerWrite number data => exact .of_next h (s.writeRegister_move number data)
  | readDeadline i => exact .of_next h (s.timeoutSlot_keepsBooks i).move
  | drainDeadline b => exact .of_next h (.kept (s.timeoutBuffer_keepsLaws b))
  | fetchDeadline e => exact .of_next h (s.timeoutEntry_keepsBooks e).move
  | ageTimer b => exact .of_next h (s.sealBuffer_keepsBooks b .age).move
  | lifeTimer e => exact .of_next h ((s.expireEntry_keepsBooks e).trans (State.checkQuiet_keepsBooks _)).move
  | holdTimer src => exact .of_next h (s.sealRecord_keepsBooks src).move
  | sample => exact .of_ite h s.takeSample_keepsBooks.move (.refl s)
  | windowClose => exact .of_ite h s.takeSample_keepsBooks.move (.refl s)
  | decision => exact .of_ite h .decided (.refl s)
  | departure => exact .of_ite h (s.departHead_keepsBooks.trans (State.checkQuiet_keepsBooks _)).move (.refl s)
  | rrlReadEntry => exact .of_ite h .readEntered (.refl s)
  | bundleEntry => exact .of_ite h .bundleEntered (.refl s)
  | rqDeparture => exact .of_ite h s.departRq_keepsBooks.move (.refl s)

end Sys2Proof.Machine
end

section
/-! Admission: what a decision takes into the books. -/

-- as in the tests: one thread for the proofs, since the check's memory limit leaves no room for one thread each
set_option Elab.async false

namespace Sys2Proof.Machine

variable {s t : State}

/-! ## What a decision may serve -/

/-- Slot `i` can be taken for a request with the pair `q`, charged to pool `p` (R1, R3, R6). -/
structure State.AdmitsTo (s : State) (i : SlotId) (p : Pool) (q : Source × Tag) : Prop where
  free : s.slot i = none
  room : s.tt.charges.of p < poolSize p
  notLive : q ∉ s.tt.tagMap

theorem State.AdmitsTo.congr {i : SlotId} {p : Pool} {q : Source × Tag} (h : s.AdmitsTo i p q) (htt : t.tt = s.tt) :
    t.AdmitsTo i p q :=
  ⟨(State.slot_congr htt i).trans h.free, htt ▸ h.room, htt ▸ h.notLive⟩

/-- What a service of a lane's head rests on, where it admits the head. -/
def State.Serves (s : State) : Lane → Service → Prop
  | .read, .admits i c => ∀ stamp src tag line rest, s.hport.readLane = .read stamp src tag line :: rest →
      s.AdmitsTo i (poolOf .read c) (src, tag)
  | .write, .admits i c => ∀ w rest, s.hport.writeLane = w :: rest →
      s.AdmitsTo i (poolOf w.kind c) (w.source, w.tag) ∧ (s.record w.source).isSealed = false
  | .flush, .admits i c => ∀ f rest, s.hport.flushLane = f :: rest → s.AdmitsTo i (poolOf .flush c) (f.source, f.tag)
  | _, _ => True

theorem State.Serves.congr {l : Lane} {sv : Service} (h : s.Serves l sv) (htt : t.tt = s.tt) (hport : t.hport = s.hport)
    (hresp : t.resp = s.resp) : t.Serves l sv := by
  cases sv with
  | admits i c =>
    cases l with
    | read => exact fun stamp src tag line rest e => (h stamp src tag line rest (hport ▸ e)).congr htt
    | write =>
      intro w rest e
      obtain ⟨ha, hr⟩ := h w rest (hport ▸ e)
      exact ⟨ha.congr htt, by rwa [State.record_congr hresp]⟩
    | flush => exact fun f rest e => (h f rest (hport ▸ e)).congr htt
  | reject | retry | hint => cases l <;> trivial

theorem State.chargeFor_room {k : RequestKind} {c : Charge} (h : s.chargeFor k = some c) :
    s.tt.charges.of (poolOf k c) < poolSize (poolOf k c) := by
  unfold State.chargeFor at h
  split at h
  · next hroom => cases h; exact hroom
  · split at h
    · next hroom => cases h; exact hroom
    · cases h

/-- The resource step admits to a FREE slot and a pool with room. -/
theorem State.admitIfSlot_admits {k : RequestKind} {i : SlotId} {c : Charge} {q : Source × Tag}
    (h : s.admitIfSlot k = .serves (.admits i c)) (hq : q ∉ s.tt.tagMap) : s.AdmitsTo i (poolOf k c) q := by
  unfold State.admitIfSlot State.slotFor at h
  cases hf : s.freeSlot? with
  | none => simp [hf] at h
  | some j =>
    cases hc : s.chargeFor k with
    | none => simp [hf, hc] at h
    | some c' =>
      simp only [hf, hc, Judgement.serves.injEq, Service.admits.injEq] at h
      obtain ⟨rfl, rfl⟩ := h
      exact ⟨(State.freeSlot?_eq_some.mp hf).1, State.chargeFor_room hc, hq⟩

/-- An answer is no admission. -/
theorem State.answered_ne_admits {sv : Service} (hsv : ∀ i c, sv ≠ .admits i c) (i : SlotId) (c : Charge) :
    s.answered sv ≠ .serves (.admits i c) := by
  unfold State.answered
  split
  · exact fun e => hsv i c (Judgement.serves.inj e)
  · nofun

theorem State.notLive_of {src : Source} {tag : Tag} (h : ¬s.isLive src tag = true) : (src, tag) ∉ s.tt.tagMap := by
  simpa [State.isLive] using h

theorem State.judgeRead_serves {sv : Service} (h : s.judgeRead = .serves sv) : s.Serves .read sv := by
  cases sv with
  | admits i c =>
    intro stamp src tag line rest e
    simp only [State.judgeRead, e] at h
    split at h
    · cases h
    · split at h
      · exact absurd h (State.answered_ne_admits (by simp) i c)
      · split at h
        · exact absurd h (State.answered_ne_admits (by simp) i c)
        · next hlive =>
          split at h
          · exact absurd h (State.answered_ne_admits (by simp) i c)
          · exact State.admitIfSlot_admits h (State.notLive_of hlive)
  | reject | retry | hint => trivial

theorem State.judgeWrite_serves {sv : Service} (h : s.judgeWrite = .serves sv) : s.Serves .write sv := by
  cases sv with
  | admits i c =>
    intro w rest e
    simp only [State.judgeWrite, e] at h
    split at h
    · cases h
    · split at h
      · exact absurd h (State.answered_ne_admits (by simp) i c)
      · split at h
        · exact absurd h (State.answered_ne_admits (by simp) i c)
        · split at h
          · exact absurd h (State.answered_ne_admits (by simp) i c)
          · next hlive =>
            split at h
            · exact absurd h (State.answered_ne_admits (by simp) i c)
            · split at h
              · cases h
              · split at h
                · cases h
                · next hsealed =>
                  exact ⟨State.admitIfSlot_admits h (State.notLive_of hlive), by simpa using hsealed⟩
  | reject | retry | hint => trivial

theorem State.judgeFlush_serves {sv : Service} (h : s.judgeFlush = .serves sv) : s.Serves .flush sv := by
  cases sv with
  | admits i c =>
    intro f rest e
    simp only [State.judgeFlush, e] at h
    split at h
    · cases h
    · split at h
      · exact absurd h (State.answered_ne_admits (by simp) i c)
      · next hlive => exact State.admitIfSlot_admits h (State.notLive_of hlive)
  | reject | retry | hint => trivial

theorem State.pick_serves {l : Lane} {sv : Service} (h : s.pick = some (l, sv)) : s.Serves l sv := by
  obtain ⟨l', -, hl'⟩ := List.exists_of_findSome?_eq_some h
  obtain ⟨sv', hsv, e⟩ := Option.map_eq_some_iff.mp hl'
  cases e
  have judged : s.judge l = .serves sv := by
    cases hj : s.judge l <;> simp [hj, Judgement.service] at hsv
    rw [hsv]
  cases l with
  | read => exact State.judgeRead_serves judged
  | write => exact State.judgeWrite_serves judged
  | flush => exact State.judgeFlush_serves judged

/-! ## The tag map's law and the order lists together -/

/-- The tag map's law, with what the flush order lists must be for it. -/
def State.PairLaw (s : State) : Prop := s.OrderOwn ∧ s.TagLaw

theorem State.KeepsPairs.pairLaw (h : s.KeepsPairs t) (hs : s.PairLaw) : t.PairLaw :=
  ⟨h.order hs.1, h.tagLaw hs.1 hs.2⟩

/-- A FREE slot stands on no flush order list. -/
theorem State.OrderLaw.not_mem_of_free (h : s.OrderLaw) {i : SlotId} (hi : s.slot i = none) (src : Source) :
    i ∉ s.flushOrder src := by
  intro hm
  have := ((h src).2 i).mp hm
  simp [State.isFlushOf, hi] at this

theorem State.OrderOwn.congr (h : s.OrderOwn) (htt : t.tt = s.tt) (hfl : t.fl = s.fl) : t.OrderOwn := by
  simpa only [State.OrderOwn, State.slot_congr htt, State.flushOrder_congr hfl] using h

theorem State.TagLaw.congr (h : s.TagLaw) (htt : t.tt = s.tt) (hresp : t.resp = s.resp) : t.TagLaw := by
  have holders (q : Source × Tag) : t.holders q = s.holders q := by
    simp only [State.holders, State.countSlots, State.acksOf, State.slot_congr htt, State.record_congr hresp]
  rw [State.tagLaw_iff] at h ⊢
  simpa only [holders, htt] using h

theorem State.OrderLaw.congr (h : s.OrderLaw) (htt : t.tt = s.tt) (hfl : t.fl = s.fl) : t.OrderLaw := by
  simpa only [State.OrderLaw, State.isFlushOf, State.slot_congr htt, State.flushOrder_congr hfl] using h

/-- The tag map's law after a new pair has joined the tag map and has found its holder. -/
theorem State.TagLaw.add (hs : s.TagLaw) {q : Source × Tag} (hq : q ∉ s.tt.tagMap)
    (hmap : t.tt.tagMap = s.tt.tagMap ++ [q])
    (hholders : ∀ q', t.holders q' = s.holders q' + if q' = q then 1 else 0) : t.TagLaw := by
  obtain ⟨hnd, hone⟩ := State.tagLaw_iff.mp hs
  rw [State.tagLaw_iff, hmap]
  refine ⟨by simpa [List.nodup_append] using ⟨hnd, fun a b hab e => hq (e ▸ hab)⟩, fun q' => ?_⟩
  rw [hholders, hone]
  by_cases e : q' = q
  · simp [e, hq]
  · simp [e]

theorem State.takeSlot_orderOwn {i : SlotId} (sl : Slot) (hidle : ∀ src, i ∉ s.flushOrder src) (h : s.OrderOwn) :
    (s.takeSlot i sl).OrderOwn := by
  intro src j hj sl' hsl'
  rw [State.takeSlot_flushOrder] at hj
  have : j ≠ i := fun e => hidle src (e ▸ hj)
  rw [State.slot_takeSlot, if_neg this] at hsl'
  exact h src j hj sl' hsl'

theorem State.holders_takeSlot {i : SlotId} (hfree : s.slot i = none) (sl : Slot) (q : Source × Tag) :
    (s.takeSlot i sl).holders q = s.holders q + (sl.heldPair == some q).toNat := by
  have hacks : (s.takeSlot i sl).acksOf q.1 = s.acksOf q.1 := rfl
  rw [State.holders, State.countSlots_takeSlot hfree, hacks, State.holders]
  omega

/-- A slot taken for a read or a flush brings its pair into the tag map and holds it (R6). -/
theorem State.takeSlot_pairLaw {i : SlotId} {sl : Slot} {p : Pool} (hadm : s.AdmitsTo i p (sl.source, sl.tag))
    (hidle : ∀ src, i ∉ s.flushOrder src) (hpair : sl.heldPair = some (sl.source, sl.tag)) (h : s.PairLaw) :
    (s.takeSlot i sl).PairLaw := by
  refine ⟨State.takeSlot_orderOwn sl hidle h.1, h.2.add hadm.notLive (State.tagMap_takeSlot ..) fun q => ?_⟩
  rw [State.holders_takeSlot hadm.free, hpair]
  simp [Bool.toNat, @eq_comm _ q]

theorem State.mergedSlots_takeSlot {i : SlotId} (hfree : s.slot i = none) (sl : Slot) (b : BufferId) :
    (s.takeSlot i sl).mergedSlots b = s.mergedSlots b + (sl.mergedBuffer == some b).toNat :=
  State.countSlots_takeSlot hfree sl _

/-- A slot taken for a read or a flush is merged into no buffer. -/
theorem State.takeSlot_countsLaw {i : SlotId} {sl : Slot} {q : Source × Tag} (hadm : s.AdmitsTo i sl.pool q)
    (hmerged : sl.mergedBuffer = none) (h : s.CountsLaw) : (s.takeSlot i sl).CountsLaw := by
  refine ⟨State.takeSlot_charged hadm.free hadm.room h.1, fun b => ?_⟩
  simpa [State.MergedAt, State.mergedSlots_takeSlot hadm.free, hmerged] using h.2 b

/-! ## Reads -/

theorem State.admitReadPlain_keepsBooks (s : State) (i : SlotId) (src : Source) (tag : Tag) (c : Charge) (l : Line) :
    ∃ course, course ≠ ReadCourse.orphaned
      ∧ (s.takeSlot i ⟨src, tag, c, .read l false course⟩).KeepsBooks (s.admitReadPlain i src tag c l) := by
  unfold State.admitReadPlain
  split
  · next b _ =>
    refine ⟨.waitWrite b, nofun, .trans (State.sealBuffer_keepsBooks _ b .read) ?_⟩
    exact State.mapBuffer_keepsBooks _ b fun _ => ⟨rfl, id, id⟩
  · exact ⟨.ready, nofun, State.pushIq_keepsBooks _ _⟩

/-- An admitted read takes its slot; where it goes on from there is no matter of the books (R10). -/
theorem State.admitRead_keepsBooks (s : State) (i : SlotId) (c : Charge) (src : Source) (tag : Tag) (l : Line) :
    ∃ course, course ≠ ReadCourse.orphaned
      ∧ (s.takeSlot i ⟨src, tag, c, .read l false course⟩).KeepsBooks (s.admitRead i c src tag l) := by
  suffices outcome : ∃ course, course ≠ ReadCourse.orphaned
      ∧ (s.takeSlot i ⟨src, tag, c, .read l false course⟩).KeepsBooks (s.readOutcome i src tag c l) by
    obtain ⟨course, hc, hk⟩ := outcome
    exact ⟨course, hc, hk.trans (State.bump_keepsBooks _ _)⟩
  unfold State.readOutcome
  split
  · exact s.admitReadPlain_keepsBooks i src tag c l
  · next e _ =>
    split
    · next data _ _ =>
      exact ⟨.returned (.ok data) false, nofun, .trans (State.pushRrl_keepsBooks _ _) (State.bump_keepsBooks _ _)⟩
    · exact ⟨.attached e, nofun, .trans (State.setEntry_keepsBooks _ e _) (State.bump_keepsBooks _ _)⟩
    · exact s.admitReadPlain_keepsBooks i src tag c l

theorem State.admitRead_countsLaw {i : SlotId} {c : Charge} {src : Source} {tag : Tag} (l : Line)
    (hadm : s.AdmitsTo i (poolOf .read c) (src, tag)) (h : s.CountsLaw) : (s.admitRead i c src tag l).CountsLaw := by
  obtain ⟨course, -, hk⟩ := s.admitRead_keepsBooks i c src tag l
  exact hk.counts.countsLaw (State.takeSlot_countsLaw (sl := ⟨src, tag, c, .read l false course⟩) hadm rfl h)

theorem State.admitRead_pairLaw {i : SlotId} {c : Charge} {src : Source} {tag : Tag} (l : Line)
    (hadm : s.AdmitsTo i (poolOf .read c) (src, tag)) (hidle : ∀ src, i ∉ s.flushOrder src) (h : s.PairLaw) :
    (s.admitRead i c src tag l).PairLaw := by
  obtain ⟨course, hc, hk⟩ := s.admitRead_keepsBooks i c src tag l
  refine hk.pairs.pairLaw (State.takeSlot_pairLaw (sl := ⟨src, tag, c, .read l false course⟩) hadm hidle ?_ h)
  simp [Slot.heldPair_read, hc]

/-! ## Flushes -/

theorem State.registerFlush_keepsBooks (s : State) (i : SlotId) (src : Source) :
    s.KeepsBooks (s.registerFlush i src) := by
  have kept (x : Buffer) : x.KeptAs (if x.covers src then x.mapFlushes (· ++ [i]) else x) := by
    split
    · exact x.mapFlushes_keptAs _
    · exact .refl x
  unfold State.registerFlush
  exact ⟨State.mapBuffers_keepsCounts kept rfl rfl, .of_same rfl rfl rfl⟩

/-- A flush joins the tail of its source's order list (R50). -/
def State.joinOrder (s : State) (src : Source) (i : SlotId) : State :=
  s.setFlushOrder src (s.flushOrder src ++ [i])

/-- An admitted flush takes its slot and joins its source's order list; the seals before it and the check after it keep
the books (R95). -/
theorem State.admitFlush_keepsBooks (s : State) (i : SlotId) (c : Charge) (src : Source) (tag : Tag) :
    ∃ u n, s.KeepsBooks u ∧ u.tt = s.tt ∧ u.fl = s.fl
      ∧ ((u.takeSlot i ⟨src, tag, c, .flush n⟩).joinOrder src i).KeepsBooks (s.admitFlush i c src tag) := by
  have registered := (s.sealBuffers_keepsBooks (s.openOf src) .flush).trans (State.registerFlush_keepsBooks _ i src)
  unfold State.admitFlush
  dsimp only
  refine ⟨_, _, registered, ?_, ?_, .trans (State.checkFlush_keepsBooks _ src) (State.bump_keepsBooks _ _)⟩
  · simp [State.registerFlush]
  · simp [State.registerFlush]

theorem State.admitFlush_countsLaw {i : SlotId} {c : Charge} {src : Source} {tag : Tag}
    (hadm : s.AdmitsTo i (poolOf .flush c) (src, tag)) (h : s.CountsLaw) : (s.admitFlush i c src tag).CountsLaw := by
  obtain ⟨u, n, hu, htt, -, hk⟩ := s.admitFlush_keepsBooks i c src tag
  have taken := State.takeSlot_countsLaw (sl := ⟨src, tag, c, .flush n⟩) (hadm.congr htt) rfl (hu.counts.countsLaw h)
  exact hk.counts.countsLaw ((State.KeepsCounts.of_same rfl rfl).countsLaw taken)

/-- A flush may join the order list of its own source. -/
theorem State.joinOrder_pairLaw {i : SlotId} {src : Source} {sl : Slot} (hi : s.slot i = some sl)
    (hsrc : sl.source = src) (h : s.PairLaw) : (s.joinOrder src i).PairLaw := by
  refine ⟨fun src' j hj sl' hsl' hf => ?_, h.2⟩
  rw [State.joinOrder, State.setFlushOrder_slot] at hsl'
  rw [State.joinOrder, State.flushOrder_setFlushOrder] at hj
  split at hj
  · next e =>
    subst e
    rcases List.mem_append.mp hj with hj | hj
    · exact h.1 _ j hj sl' hsl' hf
    · obtain rfl := List.mem_singleton.mp hj
      obtain rfl := Option.some.inj (hi.symm.trans hsl')
      exact hsrc
  · exact h.1 src' j hj sl' hsl' hf

theorem State.admitFlush_pairLaw {i : SlotId} {c : Charge} {src : Source} {tag : Tag}
    (hadm : s.AdmitsTo i (poolOf .flush c) (src, tag)) (hidle : ∀ src, i ∉ s.flushOrder src) (h : s.PairLaw) :
    (s.admitFlush i c src tag).PairLaw := by
  obtain ⟨u, n, hu, htt, hfl, hk⟩ := s.admitFlush_keepsBooks i c src tag
  have taken : (u.takeSlot i ⟨src, tag, c, .flush n⟩).PairLaw :=
    State.takeSlot_pairLaw (hadm.congr htt) (fun src' => by rw [State.flushOrder_congr hfl]; exact hidle src') rfl
      (hu.pairs.pairLaw h)
  refine hk.pairs.pairLaw (State.joinOrder_pairLaw (sl := ⟨src, tag, c, .flush n⟩) ?_ rfl taken)
  simp

/-! ## Writes -/

/-- The slot of an admitted write (R94). -/
def WriteReq.slot (w : WriteReq) (c : Charge) (b : BufferId) : Slot :=
  ⟨w.source, w.tag, c, .write w.line (w.kind == .maskedWrite) b⟩

theorem WriteReq.pool_slot (w : WriteReq) (c : Charge) (b : BufferId) : (w.slot c b).pool = poolOf w.kind c := by
  unfold WriteReq.slot WriteReq.kind
  split <;> rfl

theorem WriteReq.heldPair_slot (w : WriteReq) (c : Charge) (b : BufferId) : (w.slot c b).heldPair = none := rfl

theorem State.admitWrite_of_placement {w : WriteReq} {pl : Placement} (h : s.placement w.line = some pl) (i : SlotId)
    (c : Charge) :
    s.admitWrite i c w = ((((s.takeSlot i (w.slot c pl.buffer)).placeWrite pl w.source w.line w.payload).writeMeetsEntry
      w.line).addAck w.source ⟨w.tag, .write, .ok⟩).bump .writesAdmitted := by
  simp only [State.admitWrite, h, WriteReq.slot]

theorem State.admitWrite_of_no_placement {w : WriteReq} (h : s.placement w.line = none) (i : SlotId) (c : Charge) :
    s.admitWrite i c w = s := by
  simp only [State.admitWrite, h]

theorem State.placement_merge {l : Line} {b : BufferId} (h : s.placement l = some (.merge b)) :
    ∃ x, s.buffer b = some x ∧ x.isOpen = true := by
  unfold State.placement at h
  split at h
  · next b' hb' =>
    obtain rfl : b' = b := by simpa using h
    split at hb'
    · have := List.find?_some hb'
      unfold State.bufferHas at this
      split at this
      · next x hx => exact ⟨x, hx, by simp_all⟩
      · cases this
    · cases hb'
  · simp at h

theorem State.placement_opens {l : Line} {b : BufferId} (h : s.placement l = some (.opens b)) : s.buffer b = none := by
  unfold State.placement at h
  split at h
  · simp at h
  · obtain ⟨b', hb', e⟩ := Option.map_eq_some_iff.mp h
    cases e
    simpa using List.find?_some hb'

theorem State.sealChecks_keepsBooks (s : State) (b : BufferId) : s.KeepsBooks (s.sealChecks b) := by
  unfold State.sealChecks
  split
  · split
    · exact s.sealBuffer_keepsBooks b .full
    · split
      · exact s.sealBuffer_keepsBooks b .count
      · exact .refl s
  · exact .refl s

/-- A sealed buffer keeps its merged count and is OPEN no more (R31). -/
theorem State.buffer_sealBuffer_self {b : BufferId} {line merged openedAt reads c age}
    (h : s.buffer b = some ⟨line, merged, openedAt, reads, .opened c age⟩) (cause : SealCause) :
    ∃ queued, (s.sealBuffer b cause).buffer b = some ⟨line, merged, openedAt, reads, .sealed c cause queued []⟩ := by
  rw [State.sealBuffer_of_open cause h]
  split
  · exact ⟨true, by simp⟩
  · exact ⟨false, by simp⟩

theorem State.openBuffer_tt (s : State) (b : BufferId) (src : Source) (l : Line) (p : Payload) :
    (s.openBuffer b src l p).tt = s.tt := rfl

/-- The seal checks make the merged count of an OPEN buffer less than 8 (R28). -/
theorem State.sealChecks_countsLaw {b : BufferId} {line merged openedAt reads c age} (hc : s.Charged)
    (hother : ∀ b', b' ≠ b → s.MergedAt b') (hb : s.buffer b = some ⟨line, merged, openedAt, reads, .opened c age⟩)
    (hm : merged = s.mergedSlots b) (hle : merged ≤ Config.mergeLimit) : (s.sealChecks b).CountsLaw := by
  have keeps := (s.sealChecks_keepsBooks b).counts
  refine ⟨keeps.charged hc, fun b' => ?_⟩
  by_cases e : b' = b
  · subst e
    have sealedAt (cause : SealCause) : (s.sealBuffer b' cause).MergedAt b' := by
      obtain ⟨queued, hq⟩ := State.buffer_sealBuffer_self hb cause
      rw [State.MergedAt, hq, (s.sealBuffer_keepsBooks b' cause).counts.merged]
      exact ⟨nofun, by simpa [Buffer.isOpen, Buffer.isOrphaned] using ⟨hm, hle⟩⟩
    simp only [State.sealChecks, hb]
    split
    · exact sealedAt .full
    · split
      · exact sealedAt .count
      · next hlt =>
        rw [State.MergedAt, hb]
        exact ⟨nofun, by simpa [Buffer.isOrphaned] using ⟨hm, hle, fun _ => Nat.lt_of_not_le hlt⟩⟩
  · exact keeps.mergedAt (hother b' e)

theorem State.placeWrite_keepsPairs (s : State) (pl : Placement) (src : Source) (l : Line) (p : Payload) :
    s.KeepsPairs (s.placeWrite pl src l p) := by
  have opened (b : BufferId) : s.KeepsPairs (s.openBuffer b src l p) := .of_same rfl rfl rfl
  unfold State.placeWrite
  split
  · next b =>
    refine .trans ?_ (State.sealChecks_keepsBooks _ b).pairs
    unfold State.mergeInto
    split <;> exact .of_same
  · next b =>
    split
    · exact (opened b).trans (State.sealChecks_keepsBooks _ b).pairs
    · exact (opened b).trans (State.sealBuffer_keepsBooks _ b .disabled).pairs

/-- A buffer that has just been opened counts the one slot merged into it (R26). -/
theorem State.openBuffer_countsLaw {b : BufferId} (src : Source) (l : Line) (p : Payload) (hc : s.Charged)
    (hother : ∀ b', b' ≠ b → s.MergedAt b') (hone : s.mergedSlots b = 1) : (s.openBuffer b src l p).CountsLaw := by
  refine ⟨hc.congr (State.openBuffer_tt ..), fun b' => ?_⟩
  have buffer : (s.openBuffer b src l p).buffer b'
      = if b' = b then some ⟨l, 1, s.mgmt.time, [], .opened ⟨p, [src]⟩ s.mgmt.regs.mergeAge⟩ else s.buffer b' :=
    s.buffer_setBuffer ..
  by_cases e : b' = b
  · subst e
    rw [State.MergedAt, buffer, if_pos rfl, State.mergedSlots_congr (State.openBuffer_tt ..), hone]
    simp [Buffer.isOrphaned]
  · exact (hother b' e).congr (State.openBuffer_tt ..) (by rw [buffer, if_neg e])

/-- The slot of an admitted write counts in the buffer that takes the write (R18, R26, R27). -/
theorem State.placeWrite_countsLaw {i : SlotId} {sl : Slot} {q : Source × Tag} {pl : Placement} {l : Line}
    (hadm : s.AdmitsTo i sl.pool q) (hpl : s.placement l = some pl) (hsl : sl.mergedBuffer = some pl.buffer)
    (src : Source) (p : Payload) (h : s.CountsLaw) : ((s.takeSlot i sl).placeWrite pl src l p).CountsLaw := by
  obtain ⟨hcharged, hmerged⟩ := h
  have charged := State.takeSlot_charged hadm.free hadm.room hcharged
  have count (b : BufferId) : (s.takeSlot i sl).mergedSlots b = s.mergedSlots b + if pl.buffer = b then 1 else 0 := by
    rw [State.mergedSlots_takeSlot hadm.free, hsl]
    simp [Bool.toNat]
  have other (b : BufferId) (hb : b ≠ pl.buffer) : (s.takeSlot i sl).MergedAt b := by
    simpa [State.MergedAt, count, Ne.symm hb] using hmerged b
  cases pl with
  | merge b =>
    obtain ⟨⟨line, merged, openedAt, reads, phase⟩, hx, hopen⟩ := State.placement_merge hpl
    cases phase with
    | opened content age =>
      obtain ⟨hm, -, hlt, -⟩ := (hmerged b).2 _ hx
      simp only [State.placeWrite, State.mergeInto, State.takeSlot_buffer, hx]
      refine State.sealChecks_countsLaw (charged.congr rfl) (fun b' hb' => ?_)
        ((State.buffer_setBuffer ..).trans (if_pos rfl)) ?_ (hlt rfl)
      · exact (other b' hb').congr rfl (by simp [hb'])
      · rw [State.mergedSlots_congr (State.setBuffer_tt ..), count, ← hm]
        simp [Placement.buffer]
    | sealed | draining | orphaned => cases hopen
  | opens b =>
    have h0 := (hmerged b).1 (State.placement_opens hpl)
    have opened := State.openBuffer_countsLaw src l p charged other (by rw [count, Placement.buffer, h0, if_pos rfl])
    simp only [State.placeWrite]
    split
    · exact (State.sealChecks_keepsBooks _ b).counts.countsLaw opened
    · exact (State.sealBuffer_keepsBooks _ b .disabled).counts.countsLaw opened

theorem State.writeMeetsEntry_keepsBooks (s : State) (l : Line) : s.KeepsBooks (s.writeMeetsEntry l) := .of_same

theorem State.admitWrite_countsLaw {i : SlotId} {c : Charge} {w : WriteReq}
    (hadm : s.AdmitsTo i (poolOf w.kind c) (w.source, w.tag)) (h : s.CountsLaw) : (s.admitWrite i c w).CountsLaw := by
  cases hpl : s.placement w.line with
  | none => rwa [State.admitWrite_of_no_placement hpl]
  | some pl =>
    rw [State.admitWrite_of_placement hpl]
    rw [← w.pool_slot c pl.buffer] at hadm
    have placed := State.placeWrite_countsLaw hadm hpl rfl w.source w.payload h
    have met := (State.writeMeetsEntry_keepsBooks _ w.line).counts.countsLaw placed
    exact (State.KeepsCounts.trans (.of_same) (State.bump_keepsBooks _ _).counts).countsLaw met

theorem State.placeWrite_resp (s : State) (pl : Placement) (src : Source) (l : Line) (p : Payload) :
    (s.placeWrite pl src l p).resp = s.resp := by
  have checks (u : State) (b : BufferId) : (u.sealChecks b).resp = u.resp := by
    unfold State.sealChecks
    split
    · split
      · simp
      · split <;> simp
    · rfl
  have opened (b : BufferId) : (s.openBuffer b src l p).resp = s.resp := rfl
  unfold State.placeWrite
  split
  · rw [checks]
    unfold State.mergeInto
    split <;> rfl
  · split
    · rw [checks, opened]
    · rw [State.sealBuffer_resp, opened]

/-- An acknowledgement holds its pair. -/
theorem State.holders_addAck {src : Source} (hr : (s.record src).isSealed = false) (a : Ack) (q : Source × Tag) :
    (s.addAck src a).holders q = s.holders q + if q = (src, a.tag) then 1 else 0 := by
  obtain ⟨qsrc, qtag⟩ := q
  have slots (p : Slot → Bool) : (s.addAck src a).countSlots p = s.countSlots p := by simp [State.countSlots]
  rw [State.holders, State.holders, slots, State.acksOf_addAck hr]
  by_cases hs : qsrc = src
  · simp [hs, List.count_singleton, Nat.add_assoc, @eq_comm _ qtag]
  · simp [hs]

/-- A pair that has joined the tag map may find its holder in an acknowledgement. -/
theorem State.addAck_pairLaw {src : Source} {a : Ack} (hs : s.TagLaw) (hlive : (src, a.tag) ∉ s.tt.tagMap)
    (hmap : t.tt.tagMap = s.tt.tagMap ++ [(src, a.tag)]) (hord : t.OrderOwn) (hholders : ∀ q, t.holders q = s.holders q)
    (hr : (t.record src).isSealed = false) : (t.addAck src a).PairLaw := by
  refine ⟨hord.congr (by simp) (by simp), hs.add hlive (by simpa using hmap) fun q => ?_⟩
  rw [State.holders_addAck hr, hholders]

/-- A write holds its pair in the bundle record of its source, and not in its slot (R94). -/
theorem State.admitWrite_pairLaw {i : SlotId} {c : Charge} {w : WriteReq}
    (hadm : s.AdmitsTo i (poolOf w.kind c) (w.source, w.tag)) (hr : (s.record w.source).isSealed = false)
    (hidle : ∀ src, i ∉ s.flushOrder src) (h : s.PairLaw) : (s.admitWrite i c w).PairLaw := by
  cases hpl : s.placement w.line with
  | none => rwa [State.admitWrite_of_no_placement hpl]
  | some pl =>
    rw [State.admitWrite_of_placement hpl]
    refine (State.bump_keepsBooks _ _).pairs.pairLaw ?_
    have taken := State.takeSlot_orderOwn (w.slot c pl.buffer) hidle h.1
    have placed := (State.placeWrite_keepsPairs (s.takeSlot i (w.slot c pl.buffer)) pl w.source w.line w.payload).trans
      (State.writeMeetsEntry_keepsBooks _ w.line).pairs
    refine State.addAck_pairLaw h.2 hadm.notLive (placed.tagMap.trans (State.tagMap_takeSlot ..)) (placed.order taken)
      (fun q => ?_) ?_
    · rw [placed.holders taken, State.holders_takeSlot hadm.free, WriteReq.heldPair_slot]
      rfl
    · rwa [State.writeMeetsEntry_record, State.record_congr (State.placeWrite_resp ..), State.takeSlot_record]

/-! ## A decision -/

theorem State.leaveLane_keepsBooks (s : State) (l : Lane) : s.KeepsBooks (s.leaveLane l) := by
  cases l <;> exact .of_same rfl rfl rfl rfl

theorem State.serveReject_keepsBooks (s : State) (src : Source) (tag : Tag) (line : Option Line) (k : RequestKind)
    (r : Reason) : s.KeepsBooks (s.serveReject src tag line k r) := by
  refine .trans (.trans ?_ (State.logNotice_keepsBooks _ _)) (State.bump_keepsBooks _ _)
  exact .of_same

theorem State.serveRetry_keepsBooks (s : State) (src : Source) (tag : Tag) (k : RequestKind) :
    s.KeepsBooks (s.serveRetry src tag k) := by
  refine .trans ?_ (State.bump_keepsBooks _ _)
  exact .of_same

theorem State.serveHint_keepsBooks (s : State) (src : Source) (l : Line) (e : Option EntryId) :
    s.KeepsBooks (s.serveHint src l e) := by
  cases e with
  | none => exact s.bump_keepsBooks _
  | some e =>
    exact .trans (.trans (s.setEntry_keepsBooks e _) (State.pushIq_keepsBooks _ _)) (State.bump_keepsBooks _ _)

/-- What serving a lane's head does: it admits the head to a slot that can be taken, or it keeps the books. -/
inductive State.Served (s : State) : State → Prop
  | kept {t : State} (h : s.KeepsBooks t) : s.Served t
  | read {i c src tag} (line : Line) (h : s.AdmitsTo i (poolOf .read c) (src, tag)) :
    s.Served (s.admitRead i c src tag line)
  | write {i c} {w : WriteReq} (h : s.AdmitsTo i (poolOf w.kind c) (w.source, w.tag))
    (hr : (s.record w.source).isSealed = false) : s.Served (s.admitWrite i c w)
  | flush {i c src tag} (h : s.AdmitsTo i (poolOf .flush c) (src, tag)) : s.Served (s.admitFlush i c src tag)

theorem State.serve_served {l : Lane} {sv : Service} (h : s.Serves l sv) :
    ∃ u, s.Served u ∧ u.KeepsBooks (s.serve l sv) := by
  unfold State.serve
  cases l with
  | read =>
    dsimp only
    split
    · next req rest hlane =>
      refine ⟨s.serveRead req sv, ?_, State.leaveLane_keepsBooks _ .read⟩
      unfold State.serveRead
      split
      · exact .read _ (h _ _ _ _ _ hlane)
      · exact .kept (s.serveReject_keepsBooks _ _ _ _ _)
      · exact .kept (s.serveRetry_keepsBooks _ _ _)
      · exact .kept (s.serveHint_keepsBooks _ _ _)
      · exact .kept (.refl s)
    · exact ⟨s, .kept (.refl s), .refl s⟩
  | write =>
    dsimp only
    split
    · next w rest hlane =>
      refine ⟨s.serveWrite w sv, ?_, State.leaveLane_keepsBooks _ .write⟩
      cases sv with
      | admits i c =>
        obtain ⟨ha, hr⟩ := h w rest hlane
        exact .write ha hr
      | reject r => exact .kept (s.serveReject_keepsBooks _ _ _ _ _)
      | retry => exact .kept (s.serveRetry_keepsBooks _ _ _)
      | hint => exact .kept (.refl s)
    · exact ⟨s, .kept (.refl s), .refl s⟩
  | flush =>
    dsimp only
    split
    · next f rest hlane =>
      refine ⟨s.serveFlush f sv, ?_, State.leaveLane_keepsBooks _ .flush⟩
      cases sv with
      | admits i c => exact .flush (h f rest hlane)
      | reject r => exact .kept (s.serveReject_keepsBooks _ _ _ _ _)
      | retry | hint => exact .kept (.refl s)
    · exact ⟨s, .kept (.refl s), .refl s⟩

theorem State.Served.countsLaw (hs : s.Served t) (h : s.CountsLaw) : t.CountsLaw := by
  cases hs with
  | kept hk => exact hk.counts.countsLaw h
  | read line ha => exact State.admitRead_countsLaw line ha h
  | write ha => exact State.admitWrite_countsLaw ha h
  | flush ha => exact State.admitFlush_countsLaw ha h

theorem State.Served.pairLaw (hs : s.Served t) (ho : s.OrderLaw) (h : s.PairLaw) : t.PairLaw := by
  cases hs with
  | kept hk => exact hk.pairs.pairLaw h
  | read line ha => exact State.admitRead_pairLaw line ha (ho.not_mem_of_free ha.free) h
  | write ha hr => exact State.admitWrite_pairLaw ha hr (ho.not_mem_of_free ha.free) h
  | flush ha => exact State.admitFlush_pairLaw ha (ho.not_mem_of_free ha.free) h

/-- A decision serves at most one head, and what it does before and after the service keeps the books. -/
theorem State.decide_served (s : State) :
    ∃ u v, s.KeepsBooks u ∧ u.tt = s.tt ∧ u.fl = s.fl ∧ u.Served v ∧ v.KeepsBooks s.decide := by
  have served {l sv} (h : s.pick = some (l, sv)) :
      ∃ u v, s.KeepsBooks u ∧ u.tt = s.tt ∧ u.fl = s.fl ∧ u.Served v ∧ v.KeepsBooks (s.serve l sv) := by
    obtain ⟨v, hv, hk⟩ := State.serve_served (State.pick_serves h)
    exact ⟨s, v, .refl s, rfl, rfl, hv, hk⟩
  unfold State.decide
  split
  · exact ⟨s, s, .refl s, rfl, rfl, .kept (.refl s), s.pressureRequest_keepsBooks⟩
  · next l sv _ hpick =>
    split
    · exact served hpick
    · have drawn : s.KeepsBooks { s with choices := s.choices + 1 } := .of_same rfl rfl rfl rfl
      have serves := State.pick_serves hpick
      dsimp only
      split
      · have pressed : State.Serves (State.pressureRequest { s with choices := s.choices + 1 }) l sv :=
          serves.congr (by simp) (by simp) (by simp)
        obtain ⟨v, hv, hk⟩ := State.serve_served pressed
        exact ⟨_, v, drawn.trans (State.pressureRequest_keepsBooks _), by simp, by simp, hv, hk⟩
      · obtain ⟨v, hv, hk⟩ := State.serve_served (serves.congr (t := { s with choices := s.choices + 1 }) rfl rfl rfl)
        exact ⟨_, v, drawn, rfl, rfl, hv, hk.trans (State.pressureRequest_keepsBooks _)⟩
  · next hpick _ => exact served hpick
  · exact ⟨s, s, .refl s, rfl, rfl, .kept (.refl s), .refl s⟩

theorem State.decide_countsLaw (h : s.CountsLaw) : s.decide.CountsLaw := by
  obtain ⟨u, v, hu, -, -, hv, hd⟩ := s.decide_served
  exact hd.counts.countsLaw (hv.countsLaw (hu.counts.countsLaw h))

theorem State.decide_pairLaw (ho : s.OrderLaw) (h : s.TagLaw) : s.decide.PairLaw := by
  obtain ⟨u, v, hu, htt, hfl, hv, hd⟩ := s.decide_served
  exact hd.pairs.pairLaw (hv.pairLaw (ho.congr htt hfl) (hu.pairs.pairLaw ⟨ho.own, h⟩))

/-! ## Every step -/

theorem State.slot_reset (commands : List Instr) (i : SlotId) :
    State.slot { State.reset with pending := commands } i = none := tget_replicate ..

theorem State.countSlots_reset (commands : List Instr) (p : Slot → Bool) :
    State.countSlots { State.reset with pending := commands } p = 0 :=
  List.countP_eq_zero.mpr fun i _ => by simp [State.slot_reset]

theorem State.reset_countsLaw (commands : List Instr) : State.CountsLaw { State.reset with pending := commands } := by
  refine ⟨State.charged_iff.mpr ⟨fun p => ?_, fun src => ?_⟩, fun b => ⟨fun _ => State.countSlots_reset .., ?_⟩⟩
  · rw [State.countSlots_reset]
    cases p <;> exact ⟨rfl, Nat.zero_le _⟩
  · rw [State.countSlots_reset]
    exact tget_replicate ..
  · rw [show State.buffer { State.reset with pending := commands } b = none from tget_replicate ..]
    nofun

theorem State.reset_tagLaw (commands : List Instr) : State.TagLaw { State.reset with pending := commands } := by
  have acks (src : Source) : State.acksOf { State.reset with pending := commands } src = [] :=
    congrArg BundleRecord.acks (tget_replicate ..)
  refine State.tagLaw_iff.mpr ⟨List.nodup_nil, fun q => ?_⟩
  rw [State.holders, State.countSlots_reset, acks]
  rfl

/-- H-link down leaves no flush order list (R60). -/
theorem State.hLinkLost_orderOwn (s : State) : s.hLinkLost.OrderOwn := by
  intro src i hi
  simp [State.hLinkLost, State.dropResponses, State.dropFlushes, State.flushOrder] at hi

theorem State.BookMove.countsLaw (hm : s.BookMove t) (h : s.CountsLaw) : t.CountsLaw := by
  cases hm with
  | kept hk => exact hk.counts h
  | reset commands => exact State.reset_countsLaw commands
  | hostLost hk => exact hk.counts.countsLaw (State.hLinkLost_countsLaw h)
  | decided => exact State.decide_countsLaw h
  | readEntered => exact (s.enterRead_keepsCounts.trans (State.checkQuiet_keepsBooks _).counts).countsLaw h
  | bundleEntered => exact (s.enterBundle_keepsCounts.trans (State.checkQuiet_keepsBooks _).counts).countsLaw h

theorem State.BookMove.tagLaw (hm : s.BookMove t) (ho : s.OrderLaw) (hr : s.RrlLaw) (h : s.TagLaw) : t.TagLaw := by
  cases hm with
  | kept hk => exact hk.pairs.tagLaw ho.own h
  | reset commands => exact State.reset_tagLaw commands
  | hostLost hk => exact hk.pairs.tagLaw s.hLinkLost_orderOwn s.hLinkLost_tagLaw
  | decided => exact (State.decide_pairLaw ho h).2
  | readEntered => exact (State.enterRead_tagLaw hr h).congr (by simp) (by simp)
  | bundleEntered => exact (State.enterBundle_tagLaw ho.own h).congr (by simp) (by simp)

/-- A step is 10 ns of time or a command, on the state with the rest of the queue. -/
theorem step_move (h : step s = .next t) : ∃ rest, State.BookMove { s with pending := rest } t := by
  unfold step at h
  split at h
  · exact ⟨s.pending, .of_next h s.tick_keepsBooks.move⟩
  · next rest _ => exact ⟨rest, exec_move h⟩

/-- Settles O50: a step is a move on the books, and every move keeps the counts. -/
theorem stepKeepsSlotCounts : Obligations.StepKeepsSlotCounts := by
  intro s t hs h
  obtain ⟨rest, hm⟩ := step_move h
  exact State.countsLaw_iff.mp (hm.countsLaw (State.countsLaw_iff.mpr hs))

/-- Settles O60: a step is a move on the books; the order lists' law is for the flushes that complete and the slot a flush
takes, the RRL's law for the read that enters the RQ. -/
theorem stepKeepsTagMap : Obligations.StepKeepsTagMap := by
  rintro s t ⟨ho, hr, hs⟩ h
  obtain ⟨rest, hm⟩ := step_move h
  exact hm.tagLaw ho hr hs

end Sys2Proof.Machine
end

section
/-! A dtag that leaves its set does not meet what a failed store adds, so the additions may be made before it. -/

-- as in the tests: one thread for the proofs, since the check's memory limit leaves no room for one thread each
set_option Elab.async false

namespace Sys2Proof.Machine

theorem State.dtagFree_setLatches (s : State) (l : List Source) (d : Dtag) :
    (s.setLatches l).dtagFree d = (s.dtagFree d).setLatches l := by
  unfold State.setLatches
  induction l generalizing s with
  | nil => rfl
  | cons src l ih => exact ih (s.setLatch src true)

theorem State.dtagFree_bump (s : State) (k : Counter) (d : Dtag) :
    (s.bump k).dtagFree d = (s.dtagFree d).bump k := rfl

theorem State.dtagFree_logNotice (s : State) (n : Notice) (d : Dtag) :
    (s.logNotice n).dtagFree d = (s.dtagFree d).logNotice n := by
  rcases Nat.lt_or_ge s.mgmt.notices.length 16 with hroom | hfull
  · rw [State.logNotice_of_room n hroom, State.logNotice_of_room (s := s.dtagFree d) n hroom]
    rfl
  · rw [State.logNotice_of_full n hfull, State.logNotice_of_full (s := s.dtagFree d) n hfull]
    rfl

/-- A store's answer is its buffer's, once the dtag has left its set (R109, R111). -/
theorem execStoreDone_of_outstanding {s : State} {b : BufferId} (hup : s.mport.up = true)
    (hout : bufferDtag b ∈ s.mport.outstanding) (status : StoreStatus) :
    exec (.storeDone (bufferDtag b) status) s
      = .next ((s.dtagFree (bufferDtag b)).answerBuffer b status).checkQuiet := by
  simp [exec, execStoreDone, State.takeStoreDone, hup, hout]

/-- The store of a DRAINING buffer has failed: its contributors' latches are set, DRAIN_FAIL is logged and DRAIN_FAULTS
advances (R40). -/
def State.storeFailed (s : State) (b : BufferId) (line : Line) (c : Content) : State :=
  ((s.setLatches c.contributors).logNotice
    ⟨.drainFail, s.mgmt.time, none, none, some line, some (bufferDtag b), none⟩).bump .drainFaults

theorem State.latch_storeFailed (s : State) (b : BufferId) (line : Line) (c : Content) (src : Source) :
    (s.storeFailed b line c).latch src = (c.contributors.contains src || s.latch src) := by
  simp [State.storeFailed, State.latch_setLatches]

theorem State.dtagFree_storeFailed (s : State) (b : BufferId) (line : Line) (c : Content) (d : Dtag) :
    (s.storeFailed b line c).dtagFree d = (s.dtagFree d).storeFailed b line c := by
  simp only [State.storeFailed, State.dtagFree_bump, State.dtagFree_logNotice, State.dtagFree_setLatches,
    State.dtagFree_mgmt]

/-- A failed store ends its buffer as a good one would, from the state with R40's additions. -/
theorem State.answerBuffer_fail {s : State} {b : BufferId} {line merged openedAt reads c cause flushes o}
    (h : s.buffer b = some ⟨line, merged, openedAt, reads, .draining c cause flushes o⟩) :
    s.answerBuffer b .fail = (s.storeFailed b line c).answerBuffer b .ok := by
  have hfailed : (s.storeFailed b line c).buffer b = s.buffer b := by simp [State.storeFailed]
  simp only [State.answerBuffer, hfailed, h]
  simp [State.storeFailed, State.notice]

/-- Settles O18: R40's additions are made to the state before the dtag leaves its set, which they do not see. -/
theorem storeDoneFailAddsFault : Obligations.StoreDoneFailAddsFault := by
  intro s b line merged openedAt reads flushes c cause o hup hout hbuf
  have hfailed : (s.storeFailed b line c).mport = s.mport := by simp [State.storeFailed]
  refine ⟨s.storeFailed b line c, _, rfl, s.latch_storeFailed b line c,
    execStoreDone_of_outstanding hup hout .fail, ?_⟩
  rw [execStoreDone_of_outstanding (by rwa [hfailed]) (by rwa [hfailed]), State.dtagFree_storeFailed,
    State.answerBuffer_fail (s := s.dtagFree _) hbuf]

end Sys2Proof.Machine
end

section
/-! What leaves the merge buffer as it is: the operations outside Chapter 2 that Laws/Frames.lean does not cover. -/

-- as in the tests: one thread for the proofs, since the check's memory limit leaves no room for one thread each
set_option Elab.async false

namespace Sys2Proof.Machine

theorem foldl_mb {α : Type} {g : State → α → State} (h : ∀ (s : State) x, (g s x).mb = s.mb) (l : List α)
    (s : State) : (l.foldl g s).mb = s.mb :=
  foldl_invariant (fun t => t.mb = s.mb) g (fun t x ht => (h t x).trans ht) l s rfl

/-! ### Answers of memory -/

@[simp] theorem State.strayAnswer_mb (s : State) (d : Dtag) : (s.strayAnswer d).mb = s.mb := by
  simp [State.strayAnswer]

@[simp] theorem State.answerSlot_mb (s : State) (i : SlotId) (status : FetchStatus) (data : LineData) :
    (s.answerSlot i status data).mb = s.mb := by
  unfold State.answerSlot
  split
  · cases status <;> simp
  · rfl

@[simp] theorem State.lateSlot_mb (s : State) (i : SlotId) : (s.lateSlot i).mb = s.mb := by
  unfold State.lateSlot State.logLate
  split <;> simp

@[simp] theorem State.poisonEntry_mb (s : State) (e : EntryId) (line : Line) (src : Source) (attached : List SlotId) :
    (s.poisonEntry e line src attached).mb = s.mb := by
  simp [State.poisonEntry]

@[simp] theorem State.answerEntry_mb (s : State) (e : EntryId) (status : FetchStatus) (data : LineData) :
    (s.answerEntry e status data).mb = s.mb := by
  unfold State.answerEntry
  split
  · cases status <;> simp
  · cases status <;> simp
  · rfl

@[simp] theorem State.lateEntry_mb (s : State) (e : EntryId) : (s.lateEntry e).mb = s.mb := by
  unfold State.lateEntry State.logLate
  split <;> simp

@[simp] theorem State.takeFetchData_mb (s : State) (d : Dtag) (status : FetchStatus) (data : LineData) :
    (s.takeFetchData d status data).mb = s.mb := by
  unfold State.takeFetchData
  split
  · split
    · simp
    · split <;> simp
  · split
    · simp
    · split <;> simp
  all_goals simp

/-! ### Timers -/

@[simp] theorem State.timeoutSlot_mb (s : State) (i : SlotId) : (s.timeoutSlot i).mb = s.mb := by
  unfold State.timeoutSlot
  split <;> simp

@[simp] theorem State.orphanEntry_mb (s : State) (e : EntryId) (line : Line) (src : Source) (attached : List SlotId) :
    (s.orphanEntry e line src attached).mb = s.mb := by
  simp [State.orphanEntry]

@[simp] theorem State.timeoutEntry_mb (s : State) (e : EntryId) : (s.timeoutEntry e).mb = s.mb := by
  unfold State.timeoutEntry
  split <;> simp

@[simp] theorem State.expireEntry_mb (s : State) (e : EntryId) : (s.expireEntry e).mb = s.mb := by
  unfold State.expireEntry
  split <;> simp

/-! ### Messages of the host -/

@[simp] theorem State.receiveRead_mb (s : State) (src : Source) (tag : Option Tag) (line : Line) (req : ReadLaneReq) :
    (s.receiveRead src tag line req).mb = s.mb := by
  unfold State.receiveRead
  split
  · exact State.logNotice_mb ..
  · rfl

@[simp] theorem State.receiveWrite_mb (s : State) (req : WriteReq) : (s.receiveWrite req).mb = s.mb := by
  unfold State.receiveWrite
  split
  · exact State.logNotice_mb ..
  · rfl

@[simp] theorem State.receiveFlush_mb (s : State) (req : FlushReq) : (s.receiveFlush req).mb = s.mb := by
  unfold State.receiveFlush
  split
  · exact State.logNotice_mb ..
  · rfl

@[simp] theorem State.grantHost_mb (s : State) (count : Nat) : (s.grantHost count).mb = s.mb := by
  unfold State.grantHost
  split <;> simp

@[simp] theorem State.grantMem_mb (s : State) (count : Nat) : (s.grantMem count).mb = s.mb := by
  unfold State.grantMem
  split <;> simp

/-! ### Responses -/

@[simp] theorem State.dropPairs_mb (s : State) (src : Source) (acks : List Ack) : (s.dropPairs src acks).mb = s.mb := by
  rw [State.dropPairs_eq]

@[simp] theorem State.enterRead_mb (s : State) : s.enterRead.mb = s.mb := by
  have entered (m : Response) : (s.enterRq m).mb = s.mb := rfl
  unfold State.enterRead
  split
  · split
    · dsimp only
      split <;> simp [entered]
    · rfl
  · rfl

@[simp] theorem State.enterBundle_mb (s : State) : s.enterBundle.mb = s.mb := by
  have entered (m : Response) : (s.enterRq m).mb = s.mb := rfl
  unfold State.enterBundle
  split
  · split
    · simp [entered]
    all_goals rfl
  · rfl

@[simp] theorem State.departRq_mb (s : State) : s.departRq.mb = s.mb := by
  unfold State.departRq
  split <;> rfl

@[simp] theorem State.leaveLane_mb (s : State) (l : Lane) : (s.leaveLane l).mb = s.mb := by
  cases l <;> rfl

@[simp] theorem State.serveReject_mb (s : State) (src : Source) (tag : Tag) (line : Option Line) (k : RequestKind)
    (r : Reason) : (s.serveReject src tag line k r).mb = s.mb := by
  simp [State.serveReject]

@[simp] theorem State.serveRetry_mb (s : State) (src : Source) (tag : Tag) (k : RequestKind) :
    (s.serveRetry src tag k).mb = s.mb := by
  simp [State.serveRetry]

@[simp] theorem State.serveHint_mb (s : State) (src : Source) (l : Line) (e : Option EntryId) :
    (s.serveHint src l e).mb = s.mb := by
  cases e <;> simp [State.serveHint]

/-! ### The losses of the links -/

@[simp] theorem State.detachSlot_mb (s : State) (i : SlotId) : (s.detachSlot i).mb = s.mb := by
  unfold State.detachSlot
  split
  · split
    · split <;> simp
    all_goals simp
  all_goals simp

@[simp] theorem State.detachAll_mb (s : State) : s.detachAll.mb = s.mb := by
  simpa only [State.detachAll] using foldl_mb State.detachSlot_mb slotIds s

@[simp] theorem State.dropLanes_mb (s : State) : s.dropLanes.mb = s.mb := State.logNotice_mb ..

@[simp] theorem State.dropResponses_mb (s : State) : s.dropResponses.mb = s.mb := rfl

@[simp] theorem State.dropMPort_mb (s : State) : s.dropMPort.mb = s.mb := State.logNotice_mb ..

@[simp] theorem State.endSlotRequest_mb (s : State) (i : SlotId) : (s.endSlotRequest i).mb = s.mb := by
  unfold State.endSlotRequest
  split <;> simp

@[simp] theorem State.endHintFetch_mb (s : State) (e : EntryId) : (s.endHintFetch e).mb = s.mb := by
  have withdraw : (s.withdraw (.entry e)).mb = s.mb := rfl
  unfold State.endHintFetch
  split <;> simp [withdraw]

/-! ### The meter and the management port -/

@[simp] theorem State.judgeSource_mb (s : State) (src : Source) : (s.judgeSource src).mb = s.mb := by
  unfold State.judgeSource
  dsimp only
  split
  · simp
  · simp [State.logThrottle]

@[simp] theorem State.closeWindow_mb (s : State) : s.closeWindow.mb = s.mb := by
  simpa only [State.closeWindow, State.startWindow] using foldl_mb State.judgeSource_mb sources s

@[simp] theorem State.takeSample_mb (s : State) : s.takeSample.mb = s.mb := by
  unfold State.takeSample
  dsimp only
  split
  · rw [State.closeWindow_mb]
  · rfl

@[simp] theorem State.configureMeter_mb (s : State) (src : Source) (conf : MeterConf) :
    (s.configureMeter src conf).mb = s.mb := by
  unfold State.configureMeter
  dsimp only
  split
  · split <;> simp [State.logThrottle]
  · simp

@[simp] theorem State.writeTopLineLo_mb (s : State) (data : RegData) : (s.writeTopLineLo data).mb = s.mb := by
  rw [State.writeTopLineLo]

@[simp] theorem State.restartWindow_mb (s : State) : s.restartWindow.mb = s.mb := by
  rw [State.restartWindow, State.startWindow]

@[simp] theorem State.writeMeterSample_mb (s : State) (data : RegData) : (s.writeMeterSample data).mb = s.mb := by
  rw [State.writeMeterSample, State.restartWindow_mb]

@[simp] theorem State.writeMeterWindow_mb (s : State) (data : RegData) : (s.writeMeterWindow data).mb = s.mb := by
  rw [State.writeMeterWindow, State.restartWindow_mb]

@[simp] theorem State.writeHintEnable_mb (s : State) (data : RegData) : (s.writeHintEnable data).mb = s.mb := by
  unfold State.writeHintEnable
  split
  · rfl
  · split <;> simp

@[simp] theorem State.commandResume_mb (s : State) : s.commandResume.mb = s.mb := by
  unfold State.commandResume
  split <;> rfl

end Sys2Proof.Machine
end

section
/-! The lines' order: when two buffers of one line may stand together, which changes of the merge buffer keep its two
laws, and what sealing, queueing and freeing a buffer do to them. -/

-- as in the tests: one thread for the proofs, since the check's memory limit leaves no room for one thread each
set_option Elab.async false

namespace Sys2Proof.Machine

variable {s t u : State}

/-! ## Buffers that may stand together -/

/-- Two buffers may stand together: if they are of one line, they are neither both OPEN nor both queued, DRAINING or
ORPHANED (R25, R37). -/
def Buffer.Apart (x x' : Buffer) : Prop :=
  x.line = x'.line → ¬(x.isOpen = true ∧ x'.isOpen = true) ∧ ¬(x.blocksLine = true ∧ x'.blocksLine = true)

theorem State.lineLaw_iff :
    s.LineLaw ↔ ∀ b b', b ≠ b' → ∀ x ∈ s.buffer b, ∀ x' ∈ s.buffer b', x.Apart x' :=
  ⟨fun h b b' hb x hx x' hx' => h b b' x hx x' hx' hb, fun h b b' x hx x' hx' hb => h b b' hb x hx x' hx'⟩

/-- A buffer that stands as `y` may stand wherever it may stand as `x`: its line is the same, and it is OPEN, or queued,
DRAINING or ORPHANED, only if it is so as `x`. -/
structure Buffer.StandsAs (x y : Buffer) : Prop where
  line : y.line = x.line
  isOpen : y.isOpen = true → x.isOpen = true
  blocksLine : y.blocksLine = true → x.blocksLine = true

theorem Buffer.StandsAs.refl (x : Buffer) : x.StandsAs x := ⟨rfl, id, id⟩

theorem Buffer.Apart.symm {x x' : Buffer} (h : x.Apart x') : x'.Apart x := by
  intro hline
  obtain ⟨hopen, hblocks⟩ := h hline.symm
  exact ⟨hopen ∘ And.symm, hblocks ∘ And.symm⟩

theorem Buffer.Apart.mono {x y x' y' : Buffer} (h : x.Apart x') (hy : x.StandsAs y) (hy' : x'.StandsAs y') :
    y.Apart y' := by
  intro hline
  obtain ⟨hopen, hblocks⟩ := h (by rw [← hy.line, ← hy'.line, hline])
  exact ⟨hopen ∘ And.imp hy.isOpen hy'.isOpen, hblocks ∘ And.imp hy.blocksLine hy'.blocksLine⟩

/-! ## The two laws -/

/-- The merge buffer is in order: R25's law of a line's buffers and R24's age order. -/
def State.LineOrder (s : State) : Prop := s.LineLaw ∧ s.AgeLaw

/-- The laws read the merge buffer alone. -/
theorem State.LineOrder.congr (hs : s.LineOrder) (h : t.mb = s.mb) : t.LineOrder := by
  simpa only [State.LineOrder, State.LineLaw, State.AgeLaw, State.buffer_congr h, h] using hs

/-- From `s` to `t` no buffer is taken or becomes FREE, and each may stand where it stood. -/
structure State.KeepsLines (s t : State) : Prop where
  ageOrder : t.mb.ageOrder = s.mb.ageOrder
  buffers : ∀ b, Option.Rel Buffer.StandsAs (s.buffer b) (t.buffer b)

theorem State.KeepsLines.lineOrder (h : s.KeepsLines t) (hs : s.LineOrder) : t.LineOrder := by
  obtain ⟨hline, hnodup, hage⟩ := hs
  have before (b : BufferId) (y : Buffer) (hy : y ∈ t.buffer b) : ∃ x ∈ s.buffer b, x.StandsAs y := by
    have hb := h.buffers b
    rw [show t.buffer b = some y from hy] at hb
    generalize s.buffer b = o at hb
    cases hb with
    | some hk => exact ⟨_, rfl, hk⟩
  have inUse (b : BufferId) : (t.buffer b).isSome = (s.buffer b).isSome := by
    have hb := h.buffers b
    generalize s.buffer b = o, t.buffer b = o' at hb
    cases hb <;> rfl
  refine ⟨State.lineLaw_iff.mpr fun b b' hne y hy y' hy' => ?_, ?_⟩
  · obtain ⟨x, hx, hk⟩ := before b y hy
    obtain ⟨x', hx', hk'⟩ := before b' y' hy'
    exact (State.lineLaw_iff.mp hline b b' hne x hx x' hx').mono hk hk'
  · rw [State.AgeLaw, h.ageOrder]
    exact ⟨hnodup, fun b => by rw [hage, inUse]⟩

theorem State.mapBuffers_keepsLines {f : Buffer → Buffer} (hf : ∀ x : Buffer, x.StandsAs (f x))
    (hbuf : ∀ b, t.buffer b = (s.buffer b).map f) (hage : t.mb.ageOrder = s.mb.ageOrder) : s.KeepsLines t where
  ageOrder := hage
  buffers b := by
    rw [hbuf]
    cases s.buffer b with
    | none => exact .none
    | some x => exact .some (hf x)

theorem State.setBuffer_keepsLines {b : BufferId} {o : Option Buffer} (h : Option.Rel Buffer.StandsAs (s.buffer b) o) :
    s.KeepsLines (s.setBuffer b o) where
  ageOrder := rfl
  buffers b' := by
    rw [State.buffer_setBuffer]
    split
    · next e => exact e ▸ h
    · cases s.buffer b' with
      | none => exact .none
      | some x => exact .some (.refl x)

/-- After changes elsewhere a buffer's record changes to one that may stand where it stood. -/
theorem State.LineOrder.set (hs : s.LineOrder) {b : BufferId} {x y : Buffer} (hmb : t.mb = s.mb)
    (hb : s.buffer b = some x) (h : x.StandsAs y) : (t.setBuffer b (some y)).LineOrder :=
  (State.setBuffer_keepsLines (by rw [State.buffer_congr hmb, hb]; exact .some h)).lineOrder (hs.congr hmb)

theorem State.LineOrder.mapBuffer (hs : s.LineOrder) (b : BufferId) {f : Buffer → Buffer}
    (hf : ∀ x : Buffer, x.StandsAs (f x)) : (s.setBuffer b ((s.buffer b).map f)).LineOrder := by
  refine (State.setBuffer_keepsLines ?_).lineOrder hs
  cases s.buffer b with
  | none => exact .none
  | some x => exact .some (hf x)

/-- One buffer's record changes to one that may stand beside the others. -/
theorem State.LineLaw.update (hs : s.LineLaw) {b : BufferId} {o : Option Buffer}
    (hbuf : ∀ b', t.buffer b' = if b' = b then o else s.buffer b')
    (hapart : ∀ y ∈ o, ∀ b', b' ≠ b → ∀ x' ∈ s.buffer b', y.Apart x') : t.LineLaw := by
  refine State.lineLaw_iff.mpr fun b₁ b₂ hne y₁ hy₁ y₂ hy₂ => ?_
  rw [hbuf] at hy₁ hy₂
  split at hy₁
  · next e₁ =>
    have e₂ : b₂ ≠ b := fun e₂ => hne (e₁.trans e₂.symm)
    rw [if_neg e₂] at hy₂
    exact hapart y₁ hy₁ b₂ e₂ y₂ hy₂
  · next e₁ =>
    split at hy₂
    · exact (hapart y₂ hy₂ b₁ e₁ y₁ hy₁).symm
    · exact State.lineLaw_iff.mp hs b₁ b₂ hne y₁ hy₁ y₂ hy₂

/-- A buffer in use changes to one that may stand beside the others. -/
theorem State.LineOrder.replace (hs : s.LineOrder) {b : BufferId} {x y : Buffer} (hb : s.buffer b = some x)
    (hapart : ∀ b', b' ≠ b → ∀ x' ∈ s.buffer b', y.Apart x') : (s.setBuffer b (some y)).LineOrder := by
  obtain ⟨hline, hnodup, hmem⟩ := hs
  refine ⟨hline.update (s.buffer_setBuffer b · _) fun y' hy' => Option.some.inj hy' ▸ hapart, hnodup, fun b' => ?_⟩
  rw [State.setBuffer_mb_ageOrder, hmem, State.buffer_setBuffer]
  split <;> simp [*]

/-- A FREE buffer is taken: it is the youngest (R24). -/
theorem State.LineOrder.take (hs : s.LineOrder) {b : BufferId} {y : Buffer} (hfree : s.buffer b = none)
    (hbuf : ∀ b', t.buffer b' = if b' = b then some y else s.buffer b') (hage : t.mb.ageOrder = s.mb.ageOrder ++ [b])
    (hapart : ∀ b', b' ≠ b → ∀ x' ∈ s.buffer b', y.Apart x') : t.LineOrder := by
  obtain ⟨hline, hnodup, hmem⟩ := hs
  refine ⟨hline.update hbuf fun y' hy' => Option.some.inj hy' ▸ hapart, ?_, fun b' => ?_⟩
  · have hb : b ∉ s.mb.ageOrder := by simp [hmem, hfree]
    rw [hage, ← List.concat_eq_append]
    exact List.Nodup.concat hb hnodup
  · rw [hage, hbuf, List.mem_append, hmem, List.mem_singleton]
    split <;> simp [*]

/-- A buffer becomes FREE, and leaves the age order. -/
theorem State.LineOrder.release (hs : s.LineOrder) {b : BufferId}
    (hbuf : ∀ b', t.buffer b' = if b' = b then none else s.buffer b')
    (hage : t.mb.ageOrder = s.mb.ageOrder.filter (· ≠ b)) : t.LineOrder := by
  obtain ⟨hline, hnodup, hmem⟩ := hs
  refine ⟨hline.update hbuf nofun, hage ▸ hnodup.filter _, fun b' => ?_⟩
  rw [hage, hbuf, List.mem_filter, hmem]
  split <;> simp [*]

theorem State.reset_lineOrder (commands : List Instr) : State.LineOrder { State.reset with pending := commands } := by
  have free (b : BufferId) : State.buffer { State.reset with pending := commands } b = none := tget_replicate ..
  refine ⟨State.lineLaw_iff.mpr fun b _ _ x hx => ?_, List.nodup_nil, fun b => ?_⟩
  · rw [free] at hx
    cases hx
  · rw [free]
    simp [State.reset]

/-! ## Sealing and queueing -/

theorem State.bufferHas_iff {b : BufferId} {l : Line} {p : Buffer → Bool} :
    s.bufferHas b l p = true ↔ ∃ x ∈ s.buffer b, x.line = l ∧ p x = true := by
  unfold State.bufferHas
  cases s.buffer b with
  | none => simp
  | some x => simp

/-- The line-clear rule says that the buffer may be queued beside the others (R37). -/
theorem State.lineClear_iff {b : BufferId} {l : Line} :
    s.lineClear b l = true ↔ ∀ b', b' ≠ b → ∀ x' ∈ s.buffer b', x'.line = l → x'.blocksLine = false := by
  simp only [State.lineClear, List.all_eq_true, mem_bufferIds, true_implies, Bool.or_eq_true, beq_iff_eq,
    Bool.not_eq_true', or_iff_not_imp_left, ← Bool.not_eq_true, State.bufferHas_iff, not_exists, not_and]

theorem State.offerBuffer_lineOrder (b : BufferId) (hs : s.LineOrder) : (s.offerBuffer b).LineOrder := by
  unfold State.offerBuffer
  split
  · next hb =>
    split
    · next hclear =>
      refine (hs.replace hb fun b' hb' x' hx' hl => ?_).congr (State.pushIq_mb ..)
      have hblocks := State.lineClear_iff.mp hclear b' hb' x' hx' hl.symm
      exact ⟨by simp [Buffer.isOpen], by simp [hblocks]⟩
    · exact hs
  · exact hs

theorem State.offerNext_lineOrder (l : Line) (hs : s.LineOrder) : (s.offerNext l).LineOrder := by
  unfold State.offerNext
  split
  · exact State.offerBuffer_lineOrder _ hs
  · exact hs

theorem State.sealBuffer_lineOrder (b : BufferId) (cause : SealCause) (hs : s.LineOrder) :
    (s.sealBuffer b cause).LineOrder := by
  unfold State.sealBuffer
  split
  · next hb =>
    refine State.offerBuffer_lineOrder b (State.LineOrder.congr ?_ (State.bump_mb ..))
    exact hs.set rfl hb ⟨rfl, nofun, nofun⟩
  · exact hs

theorem State.sealBuffers_lineOrder (l : List BufferId) (cause : SealCause) (hs : s.LineOrder) :
    (s.sealBuffers l cause).LineOrder :=
  foldl_invariant State.LineOrder _ (fun _ b h => State.sealBuffer_lineOrder b cause h) l s hs

theorem State.pressureRequest_lineOrder (hs : s.LineOrder) : s.pressureRequest.LineOrder := by
  unfold State.pressureRequest
  split
  · exact State.sealBuffer_lineOrder _ _ hs
  · exact hs

/-! ## The end of a buffer -/

theorem State.freeBuffer_lineOrder (b : BufferId) (line : Line) (reads : List SlotId) (hs : s.LineOrder) :
    (s.freeBuffer b line reads).LineOrder := by
  refine State.offerNext_lineOrder line (hs.release (b := b) (fun b' => ?_) ?_)
  · exact (tget_tset ..).trans (by rw [State.wakeReads_mb]; rfl)
  · simp

theorem State.resolveBuffer_lineOrder (b : BufferId) (line : Line) (flushes reads : List SlotId) (hs : s.LineOrder) :
    (s.resolveBuffer b line flushes reads).LineOrder :=
  State.freeBuffer_lineOrder b line reads (hs.congr (by simp))

theorem State.answerBuffer_lineOrder (b : BufferId) (status : StoreStatus) (hs : s.LineOrder) :
    (s.answerBuffer b status).LineOrder := by
  unfold State.answerBuffer
  split
  · cases status with
    | ok => exact State.resolveBuffer_lineOrder b _ _ _ hs
    | fail => exact State.resolveBuffer_lineOrder b _ _ _ (hs.congr (by simp))
  · exact hs

theorem State.lateBuffer_lineOrder (b : BufferId) (hs : s.LineOrder) : (s.lateBuffer b).LineOrder := by
  unfold State.lateBuffer State.logLate
  split
  · exact State.freeBuffer_lineOrder b _ _ (hs.congr (by simp))
  · exact hs

theorem State.takeStoreDone_lineOrder (d : Dtag) (status : StoreStatus) (hs : s.LineOrder) :
    (s.takeStoreDone d status).LineOrder := by
  have freed := hs.congr (s.dtagFree_mb d)
  have stray := hs.congr (s.strayAnswer_mb d)
  unfold State.takeStoreDone
  split
  · split
    · exact State.answerBuffer_lineOrder _ status freed
    · split
      · exact State.lateBuffer_lineOrder _ freed
      · exact stray
  all_goals exact stray

/-- A DRAINING buffer that becomes ORPHANED goes on holding back its line (R41). -/
theorem State.timeoutBuffer_lineOrder (b : BufferId) (hs : s.LineOrder) : (s.timeoutBuffer b).LineOrder := by
  unfold State.timeoutBuffer
  split
  · next hb => exact hs.set (by simp) hb ⟨rfl, nofun, fun _ => rfl⟩
  · exact hs

theorem State.endDrain_lineOrder (b : BufferId) (hs : s.LineOrder) : (s.endDrain b).LineOrder := by
  unfold State.endDrain
  split
  · exact State.resolveBuffer_lineOrder b _ _ _ (hs.congr (by simp))
  · exact State.freeBuffer_lineOrder b _ _ hs
  · exact hs

/-! ## Departures, flushes and time -/

/-- A queued buffer that departs goes on holding back its line (R38). -/
theorem State.departHead_lineOrder (hs : s.LineOrder) : s.departHead.LineOrder := by
  unfold State.departHead
  split
  · exact hs
  · split
    · exact hs.congr (by simp [State.depart])
    · exact hs
  · split
    · next hb =>
      refine State.LineOrder.congr ?_ (State.bump_mb ..)
      exact hs.set rfl hb ⟨rfl, nofun, fun _ => rfl⟩
    · exact hs
  · split
    · exact hs.congr rfl
    · exact hs.congr rfl
    · exact hs

theorem Buffer.mapFlushes_standsAs (f : List SlotId → List SlotId) (x : Buffer) : x.StandsAs (x.mapFlushes f) := by
  unfold Buffer.mapFlushes
  split <;> constructor <;> simp [*, Buffer.isOpen, Buffer.blocksLine]

theorem State.dropFlushes_lineOrder (hs : s.LineOrder) : s.dropFlushes.LineOrder := by
  have kept : s.KeepsLines s.dropFlushes :=
    State.mapBuffers_keepsLines (Buffer.mapFlushes_standsAs fun _ => [])
      (fun b => by rw [State.buffer, State.dropFlushes, tget_tmap, State.buffer]) (by rw [State.dropFlushes])
  exact kept.lineOrder hs

theorem State.registerFlush_lineOrder (i : SlotId) (src : Source) (hs : s.LineOrder) :
    (s.registerFlush i src).LineOrder := by
  have kept : s.KeepsLines (s.registerFlush i src) := by
    refine State.mapBuffers_keepsLines (f := fun x => if x.covers src then x.mapFlushes (· ++ [i]) else x)
      (fun x => ?_) (fun b => by rw [State.buffer, State.registerFlush, tget_tmap, State.buffer])
      (by rw [State.registerFlush])
    split
    · exact x.mapFlushes_standsAs _
    · exact .refl x
  exact kept.lineOrder hs

theorem Buffer.standsAs_tick (x : Buffer) : x.StandsAs x.tick := by
  unfold Buffer.tick
  split <;> constructor <;> simp [*, Buffer.isOpen, Buffer.blocksLine]

theorem State.tick_lineOrder (hs : s.LineOrder) : s.tick.LineOrder :=
  (State.mapBuffers_keepsLines Buffer.standsAs_tick s.buffer_tick (by rw [State.tick])).lineOrder hs

end Sys2Proof.Machine
end

section
/-! What each command does to the lines' order. -/

-- as in the tests: one thread for the proofs, since the check's memory limit leaves no room for one thread each
set_option Elab.async false

namespace Sys2Proof.Machine

variable {s t : State}

/-! ## Writes -/

/-- While merging is on, a write opens a buffer only if no buffer of its line is OPEN (R26, R29). -/
theorem State.placement_opens_of_merging {l : Line} {b : BufferId} (h : s.placement l = some (.opens b))
    (hon : s.mgmt.regs.mergeEnable = true) (b' : BufferId) (x : Buffer) (hx : x ∈ s.buffer b') (hl : x.line = l) :
    x.isOpen = false := by
  have hnone : s.openBuffer? l = none := by
    unfold State.placement at h
    rw [if_pos hon] at h
    split at h
    · simp at h
    · assumption
  refine Bool.eq_false_iff.mpr fun hopen => ?_
  exact List.find?_eq_none.mp hnone b' (mem_bufferIds b') (State.bufferHas_iff.mpr ⟨x, hx, hl, hopen⟩)

theorem State.sealChecks_lineOrder (b : BufferId) (hs : s.LineOrder) : (s.sealChecks b).LineOrder := by
  unfold State.sealChecks
  split
  · split
    · exact State.sealBuffer_lineOrder b .full hs
    · split
      · exact State.sealBuffer_lineOrder b .count hs
      · exact hs
  · exact hs

theorem State.mergeInto_lineOrder (b : BufferId) (src : Source) (p : Payload) (hs : s.LineOrder) :
    (s.mergeInto b src p).LineOrder := by
  unfold State.mergeInto
  split
  · next hb => exact hs.set rfl hb ⟨rfl, fun _ => rfl, nofun⟩
  · exact hs

theorem State.buffer_openBuffer (s : State) (b : BufferId) (src : Source) (l : Line) (p : Payload) (b' : BufferId) :
    (s.openBuffer b src l p).buffer b'
      = if b' = b then some ⟨l, 1, s.mgmt.time, [], .opened ⟨p, [src]⟩ s.mgmt.regs.mergeAge⟩ else s.buffer b' :=
  s.buffer_setBuffer ..

/-- A buffer may be opened for a line that has no OPEN one (R25). -/
theorem State.openBuffer_lineOrder {b : BufferId} {l : Line} (src : Source) (p : Payload) (hfree : s.buffer b = none)
    (hclosed : ∀ b', ∀ x ∈ s.buffer b', x.line = l → x.isOpen = false) (hs : s.LineOrder) :
    (s.openBuffer b src l p).LineOrder := by
  refine hs.take hfree (s.buffer_openBuffer b src l p) rfl fun b' _ x hx hl => ?_
  simp [hclosed b' x hx hl.symm, Buffer.blocksLine]

/-- A buffer that is sealed as it is opened does not meet an OPEN one of its line (R30). -/
theorem State.openBuffer_sealBuffer_lineOrder {b : BufferId} (src : Source) (l : Line) (p : Payload) (cause : SealCause)
    (hfree : s.buffer b = none) (hs : s.LineOrder) : ((s.openBuffer b src l p).sealBuffer b cause).LineOrder := by
  have opened := s.buffer_openBuffer b src l p b
  rw [if_pos rfl] at opened
  simp only [State.sealBuffer, opened]
  refine State.offerBuffer_lineOrder b
    (hs.take (y := ⟨l, 1, s.mgmt.time, [], .sealed ⟨p, [src]⟩ cause false []⟩) hfree (fun b' => ?_) (by rfl)
      fun b' _ x _ _ => ⟨?_, ?_⟩)
  · rw [State.bump_buffer, State.buffer_setBuffer, State.buffer_openBuffer]
    split <;> rfl
  · simp [Buffer.isOpen]
  · simp [Buffer.blocksLine]

theorem State.placeWrite_lineOrder {pl : Placement} {l : Line} (h : s.placement l = some pl) (src : Source)
    (p : Payload) (hs : s.LineOrder) : (s.placeWrite pl src l p).LineOrder := by
  unfold State.placeWrite
  split
  · exact State.sealChecks_lineOrder _ (State.mergeInto_lineOrder _ src p hs)
  · next b =>
    have hfree := State.placement_opens h
    split
    · next hon =>
      exact State.sealChecks_lineOrder b
        (State.openBuffer_lineOrder src p hfree (State.placement_opens_of_merging h hon) hs)
    · exact State.openBuffer_sealBuffer_lineOrder src l p .disabled hfree hs

theorem State.admitWrite_lineOrder (i : SlotId) (c : Charge) (w : WriteReq) (hs : s.LineOrder) :
    (s.admitWrite i c w).LineOrder := by
  cases hpl : s.placement w.line with
  | none => rwa [State.admitWrite_of_no_placement hpl]
  | some pl =>
    have taken : (s.takeSlot i (w.slot c pl.buffer)).LineOrder := hs.congr rfl
    have placed := State.placeWrite_lineOrder (s := s.takeSlot i (w.slot c pl.buffer)) hpl w.source w.payload taken
    rw [State.admitWrite_of_placement hpl]
    exact placed.congr (by simp)

/-! ## Reads and flushes -/

theorem State.admitReadPlain_lineOrder (i : SlotId) (src : Source) (tag : Tag) (c : Charge) (l : Line)
    (hs : s.LineOrder) : (s.admitReadPlain i src tag c l).LineOrder := by
  unfold State.admitReadPlain
  split
  · next b _ =>
    have sealed := State.sealBuffer_lineOrder b .read
      (hs.congr (s.takeSlot_mb i ⟨src, tag, c, .read l false (.waitWrite b)⟩))
    refine sealed.mapBuffer b fun x => ?_
    exact ⟨rfl, id, id⟩
  · exact hs.congr (by simp)

theorem State.admitRead_lineOrder (i : SlotId) (c : Charge) (src : Source) (tag : Tag) (l : Line) (hs : s.LineOrder) :
    (s.admitRead i c src tag l).LineOrder := by
  have plain := State.admitReadPlain_lineOrder i src tag c l hs
  refine State.LineOrder.congr ?_ (State.bump_mb ..)
  unfold State.readOutcome
  split
  · exact plain
  · split
    · exact hs.congr (by simp)
    · exact hs.congr (by simp)
    · exact plain

theorem State.admitFlush_lineOrder (i : SlotId) (c : Charge) (src : Source) (tag : Tag) (hs : s.LineOrder) :
    (s.admitFlush i c src tag).LineOrder := by
  have registered := State.registerFlush_lineOrder i src (State.sealBuffers_lineOrder (s.openOf src) .flush hs)
  exact registered.congr (by simp [State.admitFlush])

/-! ## A decision -/

theorem State.serve_lineOrder (l : Lane) (sv : Service) (hs : s.LineOrder) : (s.serve l sv).LineOrder := by
  have left {u : State} (l : Lane) (hu : u.LineOrder) : (u.leaveLane l).LineOrder := hu.congr (u.leaveLane_mb l)
  unfold State.serve
  cases l with
  | read =>
    dsimp only
    split
    · refine left .read ?_
      unfold State.serveRead
      split
      · exact State.admitRead_lineOrder _ _ _ _ _ hs
      all_goals exact hs.congr (by simp)
    · exact hs
  | write =>
    dsimp only
    split
    · refine left .write ?_
      cases sv with
      | admits i c => exact State.admitWrite_lineOrder i c _ hs
      | reject | retry => exact hs.congr (by simp [State.serveWrite])
      | hint => exact hs
    · exact hs
  | flush =>
    dsimp only
    split
    · refine left .flush ?_
      cases sv with
      | admits i c => exact State.admitFlush_lineOrder i c _ _ hs
      | reject => exact hs.congr (by simp [State.serveFlush])
      | retry | hint => exact hs
    · exact hs

theorem State.decide_lineOrder (hs : s.LineOrder) : s.decide.LineOrder := by
  have drawn : State.LineOrder { s with choices := s.choices + 1 } := hs.congr rfl
  unfold State.decide
  split
  · exact State.pressureRequest_lineOrder hs
  · split
    · exact State.serve_lineOrder _ _ hs
    · dsimp only
      split
      · exact State.serve_lineOrder _ _ (State.pressureRequest_lineOrder drawn)
      · exact State.pressureRequest_lineOrder (State.serve_lineOrder _ _ drawn)
  · exact State.serve_lineOrder _ _ hs
  · exact hs

/-! ## The links and the management port -/

theorem State.hLinkLost_lineOrder (hs : s.LineOrder) : s.hLinkLost.LineOrder := by
  have dropped := State.dropFlushes_lineOrder (hs.congr (t := s.dropLanes.detachAll) (by simp))
  exact (dropped.congr (State.dropResponses_mb _)).congr (State.checkQuiet_mb _)

theorem State.mLinkLost_lineOrder (hs : s.LineOrder) : s.mLinkLost.LineOrder := by
  have reads := (hs.congr s.dropMPort_mb).congr (foldl_mb State.endSlotRequest_mb slotIds s.dropMPort)
  have drains := foldl_invariant State.LineOrder _ (fun _ b h => State.endDrain_lineOrder b h) bufferIds _ reads
  have hints := drains.congr (foldl_mb State.endHintFetch_mb entryIds _)
  exact hints.congr (State.checkQuiet_mb _)

theorem State.writeMergeEnable_lineOrder (data : RegData) (hs : s.LineOrder) : (s.writeMergeEnable data).LineOrder := by
  unfold State.writeMergeEnable
  split
  · exact hs.congr rfl
  · split
    · exact State.sealBuffers_lineOrder bufferIds .disabled (hs.congr rfl)
    · exact hs

theorem State.commandQuiesce_lineOrder (hs : s.LineOrder) : s.commandQuiesce.LineOrder := by
  have draining : State.LineOrder { s with mgmt.quiesce := .draining } := hs.congr rfl
  unfold State.commandQuiesce
  split
  · exact (State.sealBuffers_lineOrder bufferIds .quiesce draining).congr (by simp [State.sealOpen])
  · exact hs

theorem State.commandHLinkReset_lineOrder (hs : s.LineOrder) : s.commandHLinkReset.LineOrder := by
  have restarted {u : State} (n : Nat) (hu : u.LineOrder) : State.LineOrder { u with hport.restarts := n } :=
    hu.congr rfl
  unfold State.commandHLinkReset
  split
  · exact restarted _ (State.hLinkLost_lineOrder hs)
  · exact hs

theorem State.commandMLinkReset_lineOrder (hs : s.LineOrder) : s.commandMLinkReset.LineOrder := by
  have restarted {u : State} (n : Nat) (hu : u.LineOrder) : State.LineOrder { u with mport.restarts := n } :=
    hu.congr rfl
  unfold State.commandMLinkReset
  split
  · exact restarted _ (State.mLinkLost_lineOrder hs)
  · exact hs

theorem State.writeCommand_lineOrder (code : Nat) (hs : s.LineOrder) : (s.writeCommand code).LineOrder := by
  unfold State.writeCommand
  split
  · exact hs.congr rfl
  · exact hs.congr rfl
  · exact State.commandQuiesce_lineOrder hs
  · exact hs.congr s.commandResume_mb
  · exact State.commandHLinkReset_lineOrder hs
  · exact State.commandMLinkReset_lineOrder hs
  · exact hs

theorem State.writeRegister_lineOrder (number : BitVec 8) (data : RegData) (hs : s.LineOrder) :
    (s.writeRegister number data).LineOrder := by
  unfold State.writeRegister
  split
  · exact hs.congr (s.configureMeter_mb _ _)
  · unfold State.writeLow
    split
    -- register k stands in case k + 1; the writes not named leave the merge buffer
    case h_1 => exact hs.congr (s.writeTopLineLo_mb data)
    case h_3 => exact State.writeMergeEnable_lineOrder data hs
    case h_5 => exact hs.congr (s.writeHintEnable_mb data)
    case h_9 => exact hs.congr (s.writeMeterSample_mb data)
    case h_10 => exact hs.congr (s.writeMeterWindow_mb data)
    case h_12 => exact State.writeCommand_lineOrder _ hs
    all_goals exact hs.congr rfl

/-! ## Every step -/

/-- What holds of the state a command answers holds of the next state. -/
theorem of_next_eq {P : State → Prop} (h : (Host.Outcome.next s : Host.Outcome State Fault Refusal) = .next t)
    (hs : P s) : P t := by
  cases h
  exact hs

/-- What holds of both states a command may answer holds of the next state. -/
theorem of_ite_next_eq {P : State → Prop} {c : Prop} [Decidable c] {u u' : State}
    (h : (if c then Host.Outcome.next u else .next u' : Host.Outcome State Fault Refusal) = .next t)
    (hu : P u) (hu' : P u') : P t := by
  split at h
  · exact of_next_eq h hu
  · exact of_next_eq h hu'

theorem exec_lineOrder {i : Instr} (h : exec i s = .next t) (hs : s.LineOrder) : t.LineOrder := by
  have settled {u : State} (hu : u.LineOrder) : u.checkQuiet.LineOrder := hu.congr u.checkQuiet_mb
  cases i with
  | coldReset => exact of_next_eq h (State.reset_lineOrder _)
  | hLinkUp | mLinkUp => exact of_ite_next_eq h hs (hs.congr rfl)
  | hLinkDown => exact of_ite_next_eq h (State.hLinkLost_lineOrder hs) hs
  | mLinkDown => exact of_ite_next_eq h (State.mLinkLost_lineOrder hs) hs
  | read | hint => exact of_ite_next_eq h (hs.congr (s.receiveRead_mb _ _ _ _)) hs
  | write | maskedWrite => exact of_ite_next_eq h (hs.congr (s.receiveWrite_mb _)) hs
  | flush => exact of_ite_next_eq h (hs.congr (s.receiveFlush_mb _)) hs
  | hGrant count => exact of_ite_next_eq h (hs.congr (s.grantHost_mb count)) hs
  | fetchData d status data => exact of_ite_next_eq h (settled (hs.congr (s.takeFetchData_mb d status data))) hs
  | storeDone d status => exact of_ite_next_eq h (settled (State.takeStoreDone_lineOrder d status hs)) hs
  | mGrant count => exact of_ite_next_eq h (hs.congr (s.grantMem_mb count)) hs
  | noticePop => exact of_next_eq h (hs.congr (State.popNotice_mb _))
  | topLineLo data => exact of_next_eq h (hs.congr (s.writeTopLineLo_mb data))
  | meterSample data => exact of_next_eq h (hs.congr (s.writeMeterSample_mb data))
  | meterWindow data => exact of_next_eq h (hs.congr (s.writeMeterWindow_mb data))
  | clearCounters | clearLost | topLineHi | irqEnable => exact of_next_eq h (hs.congr rfl)
  | quiesce => exact of_next_eq h (State.commandQuiesce_lineOrder hs)
  | resume => exact of_next_eq h (hs.congr s.commandResume_mb)
  | hLinkReset => exact of_next_eq h (State.commandHLinkReset_lineOrder hs)
  | mLinkReset => exact of_next_eq h (State.commandMLinkReset_lineOrder hs)
  | mergeEnable data => exact of_next_eq h (State.writeMergeEnable_lineOrder data hs)
  | hintEnable data => exact of_next_eq h (hs.congr (s.writeHintEnable_mb data))
  | meterConf src data => exact of_next_eq h (hs.congr (s.configureMeter_mb src _))
  | registerWrite number data => exact of_next_eq h (State.writeRegister_lineOrder number data hs)
  | readDeadline i => exact of_next_eq h (hs.congr (s.timeoutSlot_mb i))
  | drainDeadline b => exact of_next_eq h (State.timeoutBuffer_lineOrder b hs)
  | fetchDeadline e => exact of_next_eq h (hs.congr (s.timeoutEntry_mb e))
  | ageTimer b => exact of_next_eq h (State.sealBuffer_lineOrder b .age hs)
  | lifeTimer e => exact of_next_eq h (settled (hs.congr (s.expireEntry_mb e)))
  | holdTimer src => exact of_next_eq h (hs.congr (s.sealRecord_mb src))
  | sample | windowClose => exact of_ite_next_eq h (hs.congr s.takeSample_mb) hs
  | decision => exact of_ite_next_eq h (State.decide_lineOrder hs) hs
  | departure => exact of_ite_next_eq h (settled (State.departHead_lineOrder hs)) hs
  | rrlReadEntry => exact of_ite_next_eq h (settled (hs.congr s.enterRead_mb)) hs
  | bundleEntry => exact of_ite_next_eq h (settled (hs.congr s.enterBundle_mb)) hs
  | rqDeparture => exact of_ite_next_eq h (hs.congr s.departRq_mb) hs

/-- Settles O51: 10 ns move only timers, and every command keeps the lines' order. -/
theorem stepKeepsLineOrder : Obligations.StepKeepsLineOrder := by
  intro s t hs h
  unfold step at h
  split at h
  · exact of_next_eq h (State.tick_lineOrder hs)
  · exact exec_lineOrder h (State.LineOrder.congr hs rfl)

end Sys2Proof.Machine
end

section
/-! The issue queue and the memory-side port: the links' entries into UP, what makes an answer stray, and the departure of
the IQ head. -/

-- as in the tests: one thread for the proofs, since the check's memory limit leaves no room for one thread each
set_option Elab.async false

namespace Sys2Proof.Machine

variable {s : State}

/-! ## Entering UP (R116, R155) -/

theorem exec_hLinkUp_of_down (h : s.hport.up = false) : exec .hLinkUp s = .next s.hLinkEntersUp := by
  simp [exec, execHLinkUp, h]

theorem exec_hLinkUp_of_up (h : s.hport.up = true) : exec .hLinkUp s = .next s := by
  simp [exec, execHLinkUp, h]

theorem exec_mLinkUp_of_down (h : s.mport.up = false) : exec .mLinkUp s = .next s.mLinkEntersUp := by
  simp [exec, execMLinkUp, h]

theorem exec_mLinkUp_of_up (h : s.mport.up = true) : exec .mLinkUp s = .next s := by
  simp [exec, execMLinkUp, h]

/-- Settles O5: a port that is DOWN enters UP as R155 and R116 write it out, and one that is UP stays as it is. -/
theorem linkUpOpensThePort : Obligations.LinkUpOpensThePort := fun _ =>
  ⟨exec_hLinkUp_of_down, exec_hLinkUp_of_up, exec_mLinkUp_of_down, exec_mLinkUp_of_up⟩

/-! ## Stray answers (R111, R112) -/

/-- A dtag above 71 has no owner (section 6.6). -/
theorem dtagOwner_of_ge {d : Dtag} (h : 72 ≤ d.toNat) : dtagOwner d = none := by
  simp only [dtagOwner]
  rw [dif_neg (by omega), dif_neg (by omega), dif_neg (by omega)]

/-- Every dtag is a slot's, a buffer's or an entry's, or is above 71 (section 6.6). -/
theorem dtag_cases (d : Dtag) :
    (∃ i, d = slotDtag i) ∨ (∃ b, d = bufferDtag b) ∨ (∃ e, d = entryDtag e) ∨ 72 ≤ d.toNat := by
  by_cases hslot : d.toNat < 48
  · exact .inl ⟨⟨d.toNat, hslot⟩, BitVec.eq_of_toNat_eq (by simp)⟩
  by_cases hbuffer : d.toNat < 64
  · exact .inr (.inl ⟨⟨d.toNat - 48, by omega⟩, BitVec.eq_of_toNat_eq (by simp; omega)⟩)
  by_cases hentry : d.toNat < 72
  · exact .inr (.inr (.inl ⟨⟨d.toNat - 64, by omega⟩, BitVec.eq_of_toNat_eq (by simp; omega)⟩))
  · exact .inr (.inr (.inr (by omega)))

theorem State.strayAnswer_eq (s : State) (d : Dtag) : s.strayAnswer d
    = (s.logNotice ⟨.strayResponse, s.mgmt.time, none, none, none, some d, none⟩).bump .strayResponses := rfl

/-- A FetchData is stray when its dtag is a buffer's, above 71, or in neither set. -/
theorem State.takeFetchData_of_stray {d : Dtag}
    (h : (48 ≤ d.toNat ∧ d.toNat < 64) ∨ 72 ≤ d.toNat ∨ (d ∉ s.mport.outstanding ∧ d ∉ s.mport.orphaned))
    (status : FetchStatus) (data : LineData) : s.takeFetchData d status data = s.strayAnswer d := by
  rcases dtag_cases d with ⟨i, rfl⟩ | ⟨b, rfl⟩ | ⟨e, rfl⟩ | habove
  · obtain ⟨hout, horph⟩ := (h.resolve_left (by simp)).resolve_left (by simp; omega)
    simp [State.takeFetchData, hout, horph]
  · simp [State.takeFetchData]
  · obtain ⟨hout, horph⟩ := (h.resolve_left (by simp)).resolve_left (by simp; omega)
    simp [State.takeFetchData, hout, horph]
  · simp [State.takeFetchData, dtagOwner_of_ge habove]

/-- A StoreDone is stray when its dtag is a slot's or an entry's, above 71, or in neither set. -/
theorem State.takeStoreDone_of_stray {d : Dtag}
    (h : d.toNat < 48 ∨ 64 ≤ d.toNat ∨ (d ∉ s.mport.outstanding ∧ d ∉ s.mport.orphaned))
    (status : StoreStatus) : s.takeStoreDone d status = s.strayAnswer d := by
  rcases dtag_cases d with ⟨i, rfl⟩ | ⟨b, rfl⟩ | ⟨e, rfl⟩ | habove
  · simp [State.takeStoreDone]
  · obtain ⟨hout, horph⟩ := (h.resolve_left (by simp)).resolve_left (by simp; omega)
    simp [State.takeStoreDone, hout, horph]
  · simp [State.takeStoreDone]
  · simp [State.takeStoreDone, dtagOwner_of_ge habove]

/-- A stray answer does not complete the quiet condition, since it empties nothing (R164). -/
theorem State.checkQuiet_strayAnswer (hq : s.QuietLaw) (d : Dtag) : (s.strayAnswer d).checkQuiet = s.strayAnswer d := by
  have hcond : (s.strayAnswer d).quietCondition = s.quietCondition := by
    apply State.quietCondition_congr <;> simp [State.strayAnswer]
  have hquiesce : (s.strayAnswer d).mgmt.quiesce = s.mgmt.quiesce := by simp [State.strayAnswer]
  apply State.checkQuiet_of_not
  rw [hcond, hquiesce]
  exact hq.1

theorem exec_fetchData_of_up (hup : s.mport.up = true) (d : Dtag) (status : FetchStatus) (data : LineData) :
    exec (.fetchData d status data) s = .next (s.takeFetchData d status data).checkQuiet := by
  simp [exec, execFetchData, hup]

theorem exec_storeDone_of_up (hup : s.mport.up = true) (d : Dtag) (status : StoreStatus) :
    exec (.storeDone d status) s = .next (s.takeStoreDone d status).checkQuiet := by
  simp [exec, execStoreDone, hup]

/-- Settles O16: a stray answer only logs and counts, whichever of the two messages brings it. -/
theorem strayAnswerChangesNothingElse : Obligations.StrayAnswerChangesNothingElse := by
  intro s d hup hq
  refine ⟨fun hstray status data => ?_, fun hstray status => ?_⟩
  · rw [exec_fetchData_of_up hup, State.takeFetchData_of_stray hstray, State.checkQuiet_strayAnswer hq,
      State.strayAnswer_eq]
  · rw [exec_storeDone_of_up hup, State.takeStoreDone_of_stray hstray, State.checkQuiet_strayAnswer hq,
      State.strayAnswer_eq]

/-! ## Departures (R103) -/

/-- What a departure does to the M-port when the IQ is `r :: rest`. -/
theorem State.depart_of_iq {r : IqRef} {rest : List IqRef} (h : s.mport.iq = r :: rest) (d : Dtag) (m : MemMsg) :
    s.depart d m = { s with mport := { s.mport with
      iq := rest, credits := s.mport.credits - 1, sent := s.mport.sent ++ [m]
      outstanding := s.mport.outstanding.filter (· ≠ d) ++ [d] } } := by
  simp [State.depart, State.dtagSend, State.sendMem, h]

theorem State.departHead_of_empty (h : s.mport.iq = []) : s.departHead = s := by
  simp [State.departHead, h]

/-- A READY read's fetch departs and the read is ISSUED (R11). -/
theorem State.departHead_of_slot {i : SlotId} {rest src tag c l d} (hiq : s.mport.iq = .slot i :: rest)
    (hslot : s.slot i = some ⟨src, tag, c, .read l d .ready⟩) :
    s.departHead = ((s.depart (slotDtag i) (.fetch (slotDtag i) l)).setSlot i
      (some ⟨src, tag, c, .read l d (.issued s.newDeadline)⟩)).bump .fetchesSent := by
  have hdepart (m : MemMsg) : (s.depart (slotDtag i) m).slot i = _ := hslot
  simp [State.departHead, hiq, hslot, State.setCourse_of_read (hdepart _)]

/-- A queued buffer's store departs and the buffer is DRAINING (R38). -/
theorem State.departHead_of_buffer {b : BufferId} {rest line m openedAt reads c cause w}
    (hiq : s.mport.iq = .buffer b :: rest)
    (hbuf : s.buffer b = some ⟨line, m, openedAt, reads, .sealed c cause true w⟩) :
    s.departHead = ((s.depart (bufferDtag b) (storeMessage b line c.payload)).setBuffer b
      (some ⟨line, m, openedAt, reads, .draining c cause w s.newDeadline⟩)).bump .storesSent := by
  simp [State.departHead, hiq, hbuf]

/-- A queued entry's fetch departs and the entry is no longer queued, be it PENDING or STALE (R66). -/
theorem State.departHead_of_entry {e : EntryId} {rest l src} {f : HintFetch} {stale : Bool}
    (hiq : s.mport.iq = .entry e :: rest) (hqueued : f.queued = true)
    (hentry : s.entry e = some ⟨l, src, if stale then .stale f else .pending f⟩) :
    s.departHead = ((s.depart (entryDtag e) (.fetch (entryDtag e) l)).setEntry e
      (some ⟨l, src, if stale then .stale ⟨false, f.attached, s.newDeadline⟩
        else .pending ⟨false, f.attached, s.newDeadline⟩⟩)).bump .fetchesSent := by
  obtain ⟨queued, attached, deadline⟩ := f
  subst hqueued
  cases stale with
  | false => simp [State.departHead, hiq, hentry]
  | true => simp [State.departHead, hiq, hentry]

theorem exec_departure_of_blocked (h : s.mport.up = false ∨ s.mport.credits = 0) : exec .departure s = .next s := by
  rcases h with h | h <;> simp [exec, execDeparture, h]

theorem exec_departure_of_open (hup : s.mport.up = true) (hcredit : 0 < s.mport.credits) :
    exec .departure s = .next s.departHead.checkQuiet := by
  simp [exec, execDeparture, hup, hcredit]

/-- An empty IQ lets nothing depart, and the end of the happening finds what QuietLaw left. -/
theorem exec_departure_of_empty (hq : s.QuietLaw) (h : s.mport.iq = []) : exec .departure s = .next s := by
  have hhead : s.departHead.checkQuiet = s := by rw [State.departHead_of_empty h, State.checkQuiet_of_not hq.1]
  simp [exec, execDeparture, hhead]

/-- A departure's owner is not FREE after it, so the departure does not complete the quiet condition (R164). -/
theorem exec_departure_of_departHead {t : State} (hup : s.mport.up = true) (hcredit : 0 < s.mport.credits)
    (h : s.departHead = t) (hbusy : t.quietCondition = false) : exec .departure s = .next t := by
  rw [exec_departure_of_open hup hcredit, h, State.checkQuiet_of_false hbusy]

/-- Settles O46: one departure for each kind of owner; the owner it leaves behind holds off the quiet condition. -/
theorem iqHeadDeparts : Obligations.IqHeadDeparts := by
  intro s
  refine ⟨exec_departure_of_blocked, exec_departure_of_empty, fun rest deadline hup hcredit hdeadline => ?_⟩
  obtain rfl : deadline = s.newDeadline := hdeadline
  refine ⟨fun i src tag c l d hiq hslot => ?slot, fun b line m openedAt reads c cause w hiq hbuf => ?buffer,
    fun e l by' f stale hiq hqueued hentry => ?entry⟩
  case slot =>
    rw [← State.depart_of_iq hiq]
    exact exec_departure_of_departHead hup hcredit (State.departHead_of_slot hiq hslot)
      (State.quietCondition_of_slot (i := i) (by simp))
  case buffer =>
    rw [← State.depart_of_iq hiq]
    exact exec_departure_of_departHead hup hcredit (State.departHead_of_buffer hiq hbuf)
      (State.quietCondition_of_buffer (b := b) (by simp))
  case entry =>
    rw [← State.depart_of_iq hiq]
    exact exec_departure_of_departHead hup hcredit (State.departHead_of_entry hiq hqueued hentry)
      (State.quietCondition_of_entry (e := e) (by simp))

end Sys2Proof.Machine
end

section
/-! The responses that go back to the host: a read and a bundle enter the RQ from the RRL head, and the RQ head departs. -/

-- as in the tests: one thread for the proofs, since the check's memory limit leaves no room for one thread each
set_option Elab.async false

namespace Sys2Proof.Machine

variable {s : State}

/-! ## Departures of the RQ head (R129) -/

theorem exec_rqDeparture_of_blocked (h : s.hport.up = false ∨ s.resp.credits = 0) :
    exec .rqDeparture s = .next s := by
  rcases h with h | h <;> simp [exec, execRqDeparture, h]

theorem exec_rqDeparture_of_open (hup : s.hport.up = true) (hcredit : 0 < s.resp.credits) :
    exec .rqDeparture s = .next s.departRq := by
  simp [exec, execRqDeparture, hup, hcredit]

theorem State.departRq_of_empty (h : s.resp.rq = []) : s.departRq = s := by
  simp [State.departRq, h]

theorem State.departRq_of_cons {m : Response} {rest : List Response} (h : s.resp.rq = m :: rest) :
    s.departRq = { s with
      hport := { s.hport with sent := s.hport.sent ++ [.response m] }
      resp := { s.resp with rq := rest, credits := s.resp.credits - 1 } } := by
  simp [State.departRq, State.sendHost, h]

theorem exec_rqDeparture_of_empty (h : s.resp.rq = []) : exec .rqDeparture s = .next s := by
  simp [exec, execRqDeparture, State.departRq_of_empty h]

/-- Settles O49: the port's two conditions and the RQ's head decide whether a response departs. -/
theorem responseDeparts : Obligations.ResponseDeparts := by
  refine fun s => ⟨?idle, fun m rest hup hcredit hrq => ?departs⟩
  case idle =>
    rintro (hdown | hcredit | hempty)
    · exact exec_rqDeparture_of_blocked (.inl hdown)
    · exact exec_rqDeparture_of_blocked (.inr hcredit)
    · exact exec_rqDeparture_of_empty hempty
  case departs => rw [exec_rqDeparture_of_open hup hcredit, State.departRq_of_cons hrq]

/-! ## The two entries into the RQ -/

theorem State.rqHasPlace_of_full (h : 32 ≤ s.resp.rq.length) : s.rqHasPlace = false := by
  simpa [State.rqHasPlace, Config.rqPlaces] using h

theorem State.rqHasPlace_of_place (h : s.resp.rq.length < 32) : s.rqHasPlace = true := by
  simpa [State.rqHasPlace, Config.rqPlaces] using h

theorem exec_rrlReadEntry_of_full (h : 32 ≤ s.resp.rq.length) : exec .rrlReadEntry s = .next s := by
  simp [exec, execRrlReadEntry, State.rqHasPlace_of_full h]

theorem exec_rrlReadEntry_of_place (h : s.resp.rq.length < 32) :
    exec .rrlReadEntry s = .next s.enterRead.checkQuiet := by
  simp [exec, execRrlReadEntry, State.rqHasPlace_of_place h]

theorem exec_bundleEntry_of_full (h : 32 ≤ s.resp.rq.length) : exec .bundleEntry s = .next s := by
  simp [exec, execBundleEntry, State.rqHasPlace_of_full h]

theorem exec_bundleEntry_of_place (h : s.resp.rq.length < 32) :
    exec .bundleEntry s = .next s.enterBundle.checkQuiet := by
  simp [exec, execBundleEntry, State.rqHasPlace_of_place h]

/-- With an empty RRL no read enters the RQ, and the end of the happening finds what QuietLaw left. -/
theorem exec_rrlReadEntry_of_empty (hq : s.QuietLaw) (h : s.resp.rrl = []) : exec .rrlReadEntry s = .next s := by
  have hidle : s.enterRead.checkQuiet = s := by
    rw [show s.enterRead = s by simp [State.enterRead, h], State.checkQuiet_of_not hq.1]
  simp [exec, execRrlReadEntry, hidle]

/-- With an empty RRL no bundle enters the RQ, and the end of the happening finds what QuietLaw left. -/
theorem exec_bundleEntry_of_empty (hq : s.QuietLaw) (h : s.resp.rrl = []) : exec .bundleEntry s = .next s := by
  have hidle : s.enterBundle.checkQuiet = s := by
    rw [show s.enterBundle = s by simp [State.enterBundle, h], State.checkQuiet_of_not hq.1]
  simp [exec, execBundleEntry, hidle]

theorem State.resp_enterRq_of_rrl {ref : RrlRef} {rest : List RrlRef} (h : s.resp.rrl = ref :: rest) (m : Response) :
    (s.enterRq m).resp = { s.resp with rrl := rest, rq := s.resp.rq ++ [m] } := by
  simp [State.enterRq, State.pushRq, h]

/-- The management block at the end of a happening that has left it alone so far. -/
theorem State.mgmt_checkQuiet_of_mgmt {u : State} (h : u.mgmt = s.mgmt) :
    u.checkQuiet.mgmt = (s.settled u.checkQuiet.quietCondition).mgmt := by
  rw [State.mgmt_checkQuiet, State.mgmt_settled_congr _ h]

/-! ## A slot that becomes FREE (R2) -/

theorem State.charges_freeSlot_of_some {i : SlotId} {sl : Slot} (h : s.slot i = some sl) :
    (s.freeSlot i).tt.charges = s.tt.charges.modify (· - 1) sl.pool := by
  rw [State.freeSlot_of_some h]; rfl

theorem State.holdingOf_freeSlot_of_some {i : SlotId} {sl : Slot} (h : s.slot i = some sl) :
    (s.freeSlot i).holdingOf sl.source = s.holdingOf sl.source - 1 := by
  rw [State.freeSlot_of_some h]; exact tget_tset_self ..

theorem State.slotDtag_free_freeSlot {i : SlotId} {sl : Slot} (h : s.slot i = some sl) :
    slotDtag i ∉ (s.freeSlot i).mport.outstanding ∧ slotDtag i ∉ (s.freeSlot i).mport.orphaned := by
  simp [State.freeSlot_of_some h]

/-! ## A read enters the RQ (R126) -/

/-- What every read's entry does before its slot is let go: the message is queued and the pair leaves the tag map. -/
def State.handOnRead (s : State) (src : Source) (tag : Tag) (r : ReadResult) : State :=
  (s.enterRq (.readReturn src tag r)).dropPair src tag

theorem State.resp_handOnRead_of_rrl {ref : RrlRef} {rest : List RrlRef} (h : s.resp.rrl = ref :: rest) (src : Source)
    (tag : Tag) (r : ReadResult) : (s.handOnRead src tag r).resp
      = { s.resp with rrl := rest, rq := s.resp.rq ++ [.readReturn src tag r] } :=
  State.resp_enterRq_of_rrl h _

@[simp] theorem State.tagMap_handOnRead (s : State) (src : Source) (tag : Tag) (r : ReadResult) :
    (s.handOnRead src tag r).tt.tagMap = s.tt.tagMap.filter (· ≠ (src, tag)) := rfl

@[simp] theorem State.handOnRead_frame (s : State) (src : Source) (tag : Tag) (r : ReadResult) :
    (s.handOnRead src tag r).hport = s.hport ∧ (s.handOnRead src tag r).adm = s.adm
      ∧ (s.handOnRead src tag r).mb = s.mb ∧ (s.handOnRead src tag r).fl = s.fl
      ∧ (s.handOnRead src tag r).es = s.es ∧ (s.handOnRead src tag r).mport = s.mport
      ∧ (s.handOnRead src tag r).meter = s.meter ∧ (s.handOnRead src tag r).mgmt = s.mgmt
      ∧ (s.handOnRead src tag r).tt.charges = s.tt.charges
      ∧ (∀ i, (s.handOnRead src tag r).slot i = s.slot i)
      ∧ ∀ src', (s.handOnRead src tag r).holdingOf src' = s.holdingOf src' :=
  ⟨rfl, rfl, rfl, rfl, rfl, rfl, rfl, rfl, rfl, fun _ => rfl, fun _ => rfl⟩

section ReadEntry

variable {i : SlotId} {rest : List RrlRef} {src : Source} {tag : Tag} {c : Charge} {l : Line} {d : Bool}
  {r : ReadResult}

/-- A read whose late answer is still due stays behind as ORPHANED (R15). -/
theorem State.enterRead_of_orphan (hrrl : s.resp.rrl = .slot i :: rest)
    (hslot : s.slot i = some ⟨src, tag, c, .read l d (.returned r true)⟩) :
    s.enterRead = (s.handOnRead src tag r).setSlot i (some ⟨src, tag, c, .read l d .orphaned⟩) := by
  simp only [State.enterRead, hrrl, hslot, if_true]
  exact State.setCourse_of_read (s := s.handOnRead src tag r) hslot _

theorem State.enterRead_of_answered (hrrl : s.resp.rrl = .slot i :: rest)
    (hslot : s.slot i = some ⟨src, tag, c, .read l d (.returned r false)⟩) :
    s.enterRead = (s.handOnRead src tag r).freeSlot i := by
  simp [State.enterRead, hrrl, hslot, State.handOnRead]

/-- What a read's entry does and leaves alone, whatever becomes of its slot. -/
theorem State.enterRead_frame {orphan : Bool} (hrrl : s.resp.rrl = .slot i :: rest)
    (hslot : s.slot i = some ⟨src, tag, c, .read l d (.returned r orphan)⟩) :
    s.enterRead.resp = { s.resp with rrl := rest, rq := s.resp.rq ++ [.readReturn src tag r] }
      ∧ s.enterRead.tt.tagMap = s.tt.tagMap.filter (· ≠ (src, tag))
      ∧ (∀ j, j ≠ i → s.enterRead.slot j = s.slot j) ∧ s.enterRead.fl = s.fl
      ∧ s.enterRead.es = s.es ∧ s.enterRead.hport = s.hport ∧ s.enterRead.adm = s.adm
      ∧ s.enterRead.meter = s.meter ∧ s.enterRead.mport.iq = s.mport.iq ∧ s.enterRead.mgmt = s.mgmt := by
  have hresp := State.resp_handOnRead_of_rrl hrrl src tag r
  cases orphan with
  | true => simp +contextual [State.enterRead_of_orphan hrrl hslot, hresp]
  | false => simp +contextual [State.enterRead_of_answered hrrl hslot, hresp]

/-- A read that stays behind keeps its charge, its holding count and its dtag. -/
theorem State.enterRead_keeps_of_orphan (hrrl : s.resp.rrl = .slot i :: rest)
    (hslot : s.slot i = some ⟨src, tag, c, .read l d (.returned r true)⟩) :
    s.enterRead.slot i = some ⟨src, tag, c, .read l d .orphaned⟩ ∧ s.enterRead.tt.charges = s.tt.charges
      ∧ s.enterRead.holdingOf src = s.holdingOf src ∧ s.enterRead.mport = s.mport ∧ s.enterRead.mgmt = s.mgmt := by
  simp [State.enterRead_of_orphan hrrl hslot]

/-- A read that is answered gives back all it held (R2). -/
theorem State.enterRead_frees_of_answered (hrrl : s.resp.rrl = .slot i :: rest)
    (hslot : s.slot i = some ⟨src, tag, c, .read l d (.returned r false)⟩) :
    s.enterRead.slot i = none ∧ s.enterRead.holdingOf src = s.holdingOf src - 1
      ∧ s.enterRead.tt.charges = s.tt.charges.modify (· - 1) (poolOf .read c)
      ∧ slotDtag i ∉ s.enterRead.mport.outstanding ∧ slotDtag i ∉ s.enterRead.mport.orphaned := by
  have hhanded : (s.handOnRead src tag r).slot i = _ := hslot
  rw [State.enterRead_of_answered hrrl hslot]
  exact ⟨by simp, State.holdingOf_freeSlot_of_some hhanded, State.charges_freeSlot_of_some hhanded,
    State.slotDtag_free_freeSlot hhanded⟩

end ReadEntry

/-- Settles O47: the message and the pair go alike for every read; the orphan flag decides what becomes of the slot, and a
slot that stays behind holds off the quiet condition. -/
theorem readEntersResponseQueue : Obligations.ReadEntersResponseQueue := by
  refine fun s => ⟨exec_rrlReadEntry_of_full, exec_rrlReadEntry_of_empty, ?_⟩
  intro i rest src tag c l d r orphan hplace hrrl hslot
  obtain ⟨hresp, hmap, hother, hfl, hes, hhport, hadm, hmeter, hiq, hmgmt⟩ := State.enterRead_frame hrrl hslot
  refine ⟨_, exec_rrlReadEntry_of_place hplace, by simpa using hresp, by simpa using hmap, ?orphaned, ?freed,
    by simpa using hother, by simp, by simpa using hfl, by simpa using hes, by simpa using hhport,
    by simpa using hadm, by simpa using hmeter, by simpa using hiq, State.mgmt_checkQuiet_of_mgmt hmgmt⟩
  case orphaned =>
    rintro rfl
    have hkept := State.enterRead_keeps_of_orphan hrrl hslot
    have hbusy : s.enterRead.slot i ≠ none := by simp [hkept]
    rwa [State.checkQuiet_of_false (State.quietCondition_of_slot hbusy)]
  case freed =>
    rintro rfl
    simpa using State.enterRead_frees_of_answered hrrl hslot

/-! ## The check of a source's flush order (R52) -/

/-- A source without a finished flush at the head of its order has nothing to complete. -/
theorem State.checkFlush_of_unfinished {src : Source}
    (h : ∀ i order, s.flushOrder src = i :: order → ∀ src' tag c, s.slot i ≠ some ⟨src', tag, c, .flush 0⟩) :
    s.checkFlush src = s := by
  unfold State.checkFlush
  split
  · rfl
  · next i order hord =>
    split
    · next src' tag c hslot => exact absurd hslot (h i order hord src' tag c)
    · rfl

theorem State.checkFlush_of_finished {src src' : Source} {i : SlotId} {order tag c} (hord : s.flushOrder src = i :: order)
    (hslot : s.slot i = some ⟨src', tag, c, .flush 0⟩) (hrec : (s.record src).isSealed = false) :
    s.checkFlush src = s.completeFlush i src tag := by
  simp [State.checkFlush, hord, hslot, hrec]

/-- A completion touches no other source's record, latch or flush order (R53). -/
theorem State.completeFlush_other (s : State) (i : SlotId) (tag : Tag) {src src' : Source} (h : src' ≠ src) :
    (s.completeFlush i src tag).record src' = s.record src' ∧ (s.completeFlush i src tag).latch src' = s.latch src'
      ∧ (s.completeFlush i src tag).flushOrder src' = s.flushOrder src' := by
  simp [State.completeFlush, State.record_sealRecord_of_ne, State.record_addAck_of_ne, h]

/-- Nor does the check of a source's flush order. -/
theorem State.checkFlush_other (s : State) {src src' : Source} (h : src' ≠ src) :
    (s.checkFlush src).record src' = s.record src' ∧ (s.checkFlush src).latch src' = s.latch src'
      ∧ (s.checkFlush src).flushOrder src' = s.flushOrder src' := by
  unfold State.checkFlush
  (repeat' split) <;> simp [State.completeFlush_other _ _ _ h]

theorem State.latch_completeFlush_self (s : State) (i : SlotId) (src : Source) (tag : Tag) :
    (s.completeFlush i src tag).latch src = false := by
  simp [State.completeFlush]

/-- An acknowledgement that joins an EMPTY record waits there FILLING, or SEALED with BUNDLE_HOLD 0; a seal after it leaves
the record SEALED in the RRL either way (R121 to R123). -/
theorem State.sealRecord_addAck_of_empty {src : Source} (h : s.record src = .empty) (a : Ack) :
    ((s.addAck src a).sealRecord src).record src = .sealed [a]
      ∧ ((s.addAck src a).sealRecord src).resp.rrl = s.resp.rrl ++ [.record src] := by
  simp only [State.addAck, h]
  split <;> simp [State.sealRecord]

theorem State.resp_sealRecord_congr {t : State} (h : t.resp = s.resp) (src : Source) :
    (t.sealRecord src).resp = (s.sealRecord src).resp := by
  unfold State.sealRecord
  rw [State.record_congr h]
  split <;> simp [State.pushRrl, State.setRecord, h]

/-- A flush that completes into an EMPTY record is its one acknowledgement, SEALED at the RRL tail (R53). -/
theorem State.resp_completeFlush_of_empty {src : Source} (h : s.record src = .empty) (i : SlotId) (tag : Tag) :
    (s.completeFlush i src tag).record src = .sealed [⟨tag, .flush, if s.latch src then .fault else .ok⟩]
      ∧ (s.completeFlush i src tag).resp.rrl = s.resp.rrl ++ [.record src] := by
  have hempty : ((s.setLatch src false).setFlushOrder src ((s.flushOrder src).drop 1)).record src = .empty := by simpa
  obtain ⟨hrecord, hrrl⟩ :=
    State.sealRecord_addAck_of_empty hempty ⟨tag, .flush, if s.latch src then .fault else .ok⟩
  have hfreed (u : State) : ((u.freeSlot i).sealRecord src).resp = (u.sealRecord src).resp :=
    State.resp_sealRecord_congr (State.freeSlot_resp u i) src
  rw [State.completeFlush, State.record_congr (hfreed _), hfreed, hrecord, hrrl]
  simp

/-! ## A bundle enters the RQ (R127) -/

/-- What every bundle's entry does before the flush order is checked: the message is queued, the pairs leave the tag map
and the record is EMPTY. -/
def State.handOnBundle (s : State) (src : Source) (acks : List Ack) : State :=
  ((s.enterRq (.bundle src acks)).dropPairs src acks).setRecord src .empty

theorem State.enterBundle_of_sealed {src : Source} {rest acks} (hrrl : s.resp.rrl = .record src :: rest)
    (hrec : s.record src = .sealed acks) : s.enterBundle = (s.handOnBundle src acks).checkFlush src := by
  simp [State.enterBundle, hrrl, hrec, State.handOnBundle]

@[simp] theorem State.handOnBundle_frame (s : State) (src : Source) (acks : List Ack) :
    (s.handOnBundle src acks).hport = s.hport ∧ (s.handOnBundle src acks).adm = s.adm
      ∧ (s.handOnBundle src acks).mb = s.mb ∧ (s.handOnBundle src acks).fl = s.fl
      ∧ (s.handOnBundle src acks).es = s.es ∧ (s.handOnBundle src acks).mport = s.mport
      ∧ (s.handOnBundle src acks).meter = s.meter ∧ (s.handOnBundle src acks).mgmt = s.mgmt
      ∧ (s.handOnBundle src acks).resp.credits = s.resp.credits
      ∧ (∀ i, (s.handOnBundle src acks).slot i = s.slot i)
      ∧ (∀ src', (s.handOnBundle src acks).latch src' = s.latch src')
      ∧ ∀ src', (s.handOnBundle src acks).flushOrder src' = s.flushOrder src' := by
  rw [State.handOnBundle, State.dropPairs_eq]
  exact ⟨rfl, rfl, rfl, rfl, rfl, rfl, rfl, rfl, rfl, fun _ => rfl, fun _ => rfl, fun _ => rfl⟩

@[simp] theorem State.rq_handOnBundle (s : State) (src : Source) (acks : List Ack) :
    (s.handOnBundle src acks).resp.rq = s.resp.rq ++ [.bundle src acks] := by
  rw [State.handOnBundle, State.dropPairs_eq]; rfl

theorem State.rrl_handOnBundle_of_rrl {ref : RrlRef} {rest : List RrlRef} (h : s.resp.rrl = ref :: rest) (src : Source)
    (acks : List Ack) : (s.handOnBundle src acks).resp.rrl = rest := by
  rw [State.handOnBundle, State.dropPairs_eq]
  simp only [State.setRecord, State.resp_enterRq_of_rrl h]

@[simp] theorem State.record_handOnBundle (s : State) (src : Source) (acks : List Ack) (src' : Source) :
    (s.handOnBundle src acks).record src' = if src' = src then .empty else s.record src' := by
  rw [State.handOnBundle, State.dropPairs_eq]
  exact State.record_setRecord ..

@[simp] theorem State.tagMap_handOnBundle (s : State) (src : Source) (acks : List Ack) :
    (s.handOnBundle src acks).tt.tagMap
      = s.tt.tagMap.filter fun q => !(q.1 == src && acks.any fun a => a.tag == q.2) := by
  have htags (q : Source × Tag) : (acks.map Ack.tag).contains q.2 = acks.any fun a => a.tag == q.2 := by
    rw [Bool.eq_iff_iff]
    simp
  simp only [State.handOnBundle, State.dropPairs_eq, htags]
  rfl

section BundleEntry

variable {src : Source} {rest : List RrlRef} {acks : List Ack}

/-- What a bundle's entry does and leaves alone, whether or not a flush completes in it. -/
theorem State.enterBundle_frame (hrrl : s.resp.rrl = .record src :: rest) (hrec : s.record src = .sealed acks) :
    s.enterBundle.resp.rq = s.resp.rq ++ [.bundle src acks]
      ∧ s.enterBundle.tt.tagMap = s.tt.tagMap.filter (fun q => !(q.1 == src && acks.any fun a => a.tag == q.2))
      ∧ (∀ src', src' ≠ src → s.enterBundle.record src' = s.record src' ∧ s.enterBundle.latch src' = s.latch src'
        ∧ s.enterBundle.flushOrder src' = s.flushOrder src')
      ∧ s.enterBundle.es = s.es ∧ s.enterBundle.hport = s.hport ∧ s.enterBundle.adm = s.adm
      ∧ s.enterBundle.meter = s.meter ∧ s.enterBundle.mport.iq = s.mport.iq
      ∧ s.enterBundle.resp.credits = s.resp.credits ∧ s.enterBundle.mgmt = s.mgmt := by
  have hothers (src' : Source) (hne : src' ≠ src) := (s.handOnBundle src acks).checkFlush_other hne
  rw [State.enterBundle_of_sealed hrrl hrec]
  simp +contextual [hothers]

/-- Without a finished flush at the head of its source's order the bundle's entry leaves the record EMPTY. -/
theorem State.enterBundle_of_unfinished (hrrl : s.resp.rrl = .record src :: rest) (hrec : s.record src = .sealed acks)
    (h : ∀ i order, s.flushOrder src = i :: order → ∀ src' tag c, s.slot i ≠ some ⟨src', tag, c, .flush 0⟩) :
    s.enterBundle.record src = .empty ∧ s.enterBundle.resp.rrl = rest ∧ (∀ i, s.enterBundle.slot i = s.slot i)
      ∧ s.enterBundle.fl = s.fl := by
  have hnone : (s.handOnBundle src acks).checkFlush src = s.handOnBundle src acks :=
    State.checkFlush_of_unfinished (by simpa using h)
  rw [State.enterBundle_of_sealed hrrl hrec, hnone]
  simp [State.rrl_handOnBundle_of_rrl hrrl]

/-- A finished flush at the head of its source's order completes in the bundle's entry (R54). -/
theorem State.enterBundle_of_finished {i : SlotId} {order tag c} (hrrl : s.resp.rrl = .record src :: rest)
    (hrec : s.record src = .sealed acks) (hord : s.flushOrder src = i :: order)
    (hslot : s.slot i = some ⟨src, tag, c, .flush 0⟩) :
    s.enterBundle.record src = .sealed [⟨tag, .flush, if s.latch src then .fault else .ok⟩]
      ∧ s.enterBundle.resp.rrl = rest ++ [.record src] ∧ s.enterBundle.slot i = none
      ∧ s.enterBundle.latch src = false ∧ s.enterBundle.flushOrder src = order
      ∧ ∀ j, j ≠ i → s.enterBundle.slot j = s.slot j := by
  have hempty : (s.handOnBundle src acks).record src = .empty := by simp
  have hcompletes : (s.handOnBundle src acks).checkFlush src = (s.handOnBundle src acks).completeFlush i src tag :=
    State.checkFlush_of_finished (order := order) (by simpa using hord) (by simpa using hslot)
      (by rw [hempty, BundleRecord.isSealed])
  obtain ⟨hrecord, hrrl'⟩ := State.resp_completeFlush_of_empty hempty i tag
  rw [State.enterBundle_of_sealed hrrl hrec, hcompletes, hrecord, hrrl', State.rrl_handOnBundle_of_rrl hrrl]
  simp +contextual [State.slot_completeFlush, State.flushOrder_completeFlush, State.latch_completeFlush_self, hord]

end BundleEntry

/-- Settles O48: the message, the pairs and the record go alike for every bundle; the head of the source's flush order
decides whether the record is SEALED again. -/
theorem bundleEntersResponseQueue : Obligations.BundleEntersResponseQueue := by
  refine fun s => ⟨exec_bundleEntry_of_full, exec_bundleEntry_of_empty, ?_⟩
  intro src rest acks hplace hrrl hrec
  obtain ⟨hrq, hmap, hothers, hes, hhport, hadm, hmeter, hiq, hcredits, hmgmt⟩ := State.enterBundle_frame hrrl hrec
  refine ⟨_, exec_bundleEntry_of_place hplace, by simpa using hrq, by simpa using hmap, by simpa using hothers,
    fun hunfinished => ?unfinished, fun i order tag c hord hslot => ?finished, by simp, by simpa using hes,
    by simpa using hhport, by simpa using hadm, by simpa using hmeter, by simpa using hiq, by simpa using hcredits,
    State.mgmt_checkQuiet_of_mgmt hmgmt⟩
  case unfinished => simpa using State.enterBundle_of_unfinished hrrl hrec hunfinished
  case finished => simpa using State.enterBundle_of_finished hrrl hrec hord hslot

end Sys2Proof.Machine
end

section
/-! The writes that configure the source meter: the fields they carry, the window start and restart, and a source's
configuration. -/

-- as in the tests: one thread for the proofs, since the check's memory limit leaves no room for one thread each
set_option Elab.async false

namespace Sys2Proof.Machine

variable {s : State}

/-! ## Fields of the written registers (R160, R161) -/

theorem fieldOf_eq (data : RegData) (low width : Nat) : fieldOf data low width = data.toNat / 2 ^ low % 2 ^ width := by
  simp [fieldOf, Nat.shiftRight_eq_div_pow]

theorem fieldOf_lt (data : RegData) (low width : Nat) : fieldOf data low width < 2 ^ width := by
  rw [fieldOf_eq]
  exact Nat.mod_lt _ (Nat.two_pow_pos width)

/-- The upper end of a range that a field cannot exceed does not matter. -/
theorem clamp_of_le {low high n : Nat} (h : n ≤ high) : clamp low high n = max low n := by
  rw [clamp, Nat.min_eq_left h]

theorem fieldOf_bit (data : RegData) (low : Nat) : (fieldOf data low 1 == 1) = data.getLsbD low := by
  rw [fieldOf_eq, pow_one, BitVec.getLsbD, Nat.testBit_eq_decide_div_mod_eq]
  exact beq_eq_decide ..

theorem meterConfOf_eq (data : RegData) : meterConfOf data =
    ⟨data.getLsbD 31, max 1 (min (data.toNat / 2 ^ 24 % 2 ^ 6) 48), min (data.toNat / 2 ^ 16 % 2 ^ 6) 48,
      max 1 (data.toNat / 2 ^ 12 % 2 ^ 4), max 1 (data.toNat / 2 ^ 8 % 2 ^ 4), max 1 (min (data.toNat % 2 ^ 6) 48)⟩ := by
  have hnibble (low : Nat) : clamp 1 15 (fieldOf data low 4) = max 1 (data.toNat / 2 ^ low % 2 ^ 4) := by
    rw [clamp_of_le (Nat.le_of_lt_succ (fieldOf_lt data low 4)), fieldOf_eq]
  simp only [meterConfOf, fieldOf_bit, hnibble]
  simp only [clamp, fieldOf_eq, Nat.zero_max, pow_zero, Nat.div_one]

theorem MeterConf.isDisabled_iff (c : MeterConf) : c.isDisabled = true ↔ c.enabled = false ∨ c.ceiling < c.floor := by
  simp [MeterConf.isDisabled]

theorem MeterState.isThrottled_iff (x : MeterState) : x.isThrottled = true ↔ x = .throttled ∨ x = .cooling := by
  cases x <;> simp [MeterState.isThrottled]

/-! ## The window start (R138, R143, R144) -/

@[simp] theorem Meter.accumulator_startWindow (m : Meter) : m.startWindow.accumulator = 0 := by
  unfold Meter.startWindow; split <;> [rfl; split <;> rfl]

@[simp] theorem Meter.waiting_startWindow (m : Meter) : m.startWindow.waiting = none := by
  unfold Meter.startWindow; split <;> [assumption; split <;> rfl]

@[simp] theorem Meter.conf_startWindow (m : Meter) : m.startWindow.conf = m.waiting.getD m.conf := by
  cases h : m.waiting <;> simp only [Meter.startWindow, h]
  case none => rfl
  case some => split <;> rfl

/-- Only an OFF source with a pending configuration changes its state and streak at a window start. -/
theorem Meter.course_startWindow (m : Meter) :
    m.startWindow.state = (if m.state = .off ∧ m.waiting ≠ none then .calm else m.state)
      ∧ m.startWindow.streak = if m.state = .off ∧ m.waiting ≠ none then 0 else m.streak := by
  cases h : m.waiting <;> simp only [Meter.startWindow, h]
  case none => simp
  case some => by_cases hoff : m.state = .off <;> simp [hoff]

@[simp] theorem State.meterOf_startWindow (s : State) (src : Source) :
    s.startWindow.meterOf src = (s.meterOf src).startWindow := tget_tmap ..

theorem State.restartWindow_eq (s : State) : s.restartWindow = { s with
    meter := ⟨tmap Meter.startWindow s.meter.meters, s.mgmt.regs.meterSample * 10, 0⟩ } := rfl

@[simp] theorem State.meterOf_restartWindow (s : State) (src : Source) :
    s.restartWindow.meterOf src = (s.meterOf src).startWindow := State.meterOf_startWindow ..

/-! ## Writes of the window's timing (R144) -/

theorem exec_meterSample (s : State) (data : RegData) : exec (.meterSample data) s
    = .next { s with mgmt.regs.meterSample := max 1 (data.toNat % 2 ^ 8) : State }.restartWindow := by
  have hclamp : clamp 1 255 (fieldOf data 0 8) = max 1 (data.toNat % 2 ^ 8) := by
    rw [clamp_of_le (Nat.le_of_lt_succ (fieldOf_lt data 0 8)), fieldOf_eq, pow_zero, Nat.div_one]
  rw [← hclamp]; rfl

theorem exec_meterWindow (s : State) (data : RegData) : exec (.meterWindow data) s
    = .next { s with mgmt.regs.meterWindow := max 16 (min (data.toNat % 2 ^ 13) 4096) : State }.restartWindow := by
  have hclamp : clamp 16 4096 (fieldOf data 0 13) = max 16 (min (data.toNat % 2 ^ 13) 4096) := by
    rw [clamp, fieldOf_eq, pow_zero, Nat.div_one]
  rw [← hclamp]; rfl

/-- Settles O28: both writes change one register and restart the window, which is the window start of every meter. -/
theorem meterTimingWriteRestartsWindow : Obligations.MeterTimingWriteRestartsWindow := by
  intro s data
  refine ⟨_, _, exec_meterSample s data, exec_meterWindow s data, rfl, rfl, rfl, rfl, rfl, rfl, fun src => ?_⟩
  simp only [State.meterOf_restartWindow]
  exact ⟨rfl, Meter.accumulator_startWindow _, Meter.waiting_startWindow _, Meter.conf_startWindow _,
    Meter.course_startWindow _⟩

/-! ## Writes of a meter configuration (R141, R142) -/

theorem State.configureMeter_of_enabling {conf : MeterConf} (src : Source) (h : conf.isDisabled = false) :
    s.configureMeter src conf = s.setMeter src { s.meterOf src with waiting := some conf } := by
  simp [State.configureMeter, h]

theorem State.configureMeter_of_disabled {conf : MeterConf} (src : Source) (h : conf.isDisabled = true) :
    s.configureMeter src conf = if (s.meterOf src).state.isThrottled
      then (s.setMeter src ⟨conf, none, .off, 0, 0⟩).logThrottle src .throttleOff
      else s.setMeter src ⟨conf, none, .off, 0, 0⟩ := by
  simp [State.configureMeter, h]

/-- Settles O29: whether the clamped configuration is disabled decides, and then whether the source was throttled. -/
theorem meterConfWaitsOrDisables : Obligations.MeterConfWaitsOrDisables := by
  intro s src data conf hconf
  have hexec : exec (.meterConf src data) s = .next (s.configureMeter src conf) := by
    rw [hconf, ← meterConfOf_eq]; rfl
  rw [hexec]
  refine ⟨fun ⟨henabled, hfloor⟩ => ?enabling, fun hdis => ?disabled⟩
  case enabling =>
    have hdis : conf.isDisabled = false := by simp [MeterConf.isDisabled, henabled, hfloor]
    rw [State.configureMeter_of_enabling src hdis]
  case disabled =>
    rw [State.configureMeter_of_disabled src (conf.isDisabled_iff.mpr hdis)]
    simp only [MeterState.isThrottled_iff]
    refine ⟨fun hthrottled => ?_, fun ⟨hthrottled, hcooling⟩ => ?_⟩
    · rw [if_pos hthrottled]; rfl
    · rw [if_neg (not_or.mpr ⟨hthrottled, hcooling⟩)]

end Sys2Proof.Machine
end

section
/-! The window close of the source meter: several notices in one happening, the judgement and move of one source, and the
close of the window for all of them. -/

-- as in the tests: one thread for the proofs, since the check's memory limit leaves no room for one thread each
set_option Elab.async false

namespace Sys2Proof.Machine

variable {s : State}

/-! ## Several notices in one happening (R165, R169) -/

/-- The notices of a list are logged in its order. -/
def State.logAll (s : State) (ns : List Notice) : State := ns.foldl State.logNotice s

theorem State.logAll_cons (s : State) (n : Notice) (ns : List Notice) :
    s.logAll (n :: ns) = (s.logNotice n).logAll ns := rfl

theorem State.logAll_append (s : State) (ns ns' : List Notice) :
    s.logAll (ns ++ ns') = (s.logAll ns).logAll ns' := List.foldl_append

theorem State.mgmt_logAll_congr {s t : State} (ns : List Notice) (h : s.mgmt = t.mgmt) :
    (s.logAll ns).mgmt = (t.logAll ns).mgmt := by
  induction ns generalizing s t with
  | nil => exact h
  | cons n ns ih => exact ih (State.mgmt_logNotice_congr n h)

theorem State.logNotice_eq (s : State) (n : Notice) : s.logNotice n = { s with mgmt := (s.logNotice n).mgmt } := by
  unfold State.logNotice
  split <;> [split <;> rfl; rfl]

/-- Notices touch the management block alone. -/
theorem State.logAll_eq (s : State) (ns : List Notice) : s.logAll ns = { s with mgmt := (s.logAll ns).mgmt } := by
  induction ns generalizing s with
  | nil => rfl
  | cons n ns ih =>
    calc s.logAll (n :: ns) = { s.logNotice n with mgmt := ((s.logNotice n).logAll ns).mgmt } := ih (s.logNotice n)
      _ = { s with mgmt := ((s.logNotice n).logAll ns).mgmt } :=
        congrArg (fun u : State => { u with mgmt := ((s.logNotice n).logAll ns).mgmt }) (State.logNotice_eq s n)

/-- Within the management block notices touch the log, the LOST flag, the counters and the IRQ line. -/
theorem State.mgmt_logAll (s : State) (ns : List Notice) : (s.logAll ns).mgmt = { s.mgmt with
    notices := (s.logAll ns).mgmt.notices, lost := (s.logAll ns).mgmt.lost
    counters := (s.logAll ns).mgmt.counters, irqLine := (s.logAll ns).mgmt.irqLine } := by
  induction ns generalizing s with
  | nil => rfl
  | cons n ns ih => exact (ih (s.logNotice n)).trans (by simp [State.logAll_cons])

theorem State.notices_logAll (h : s.mgmt.notices.length ≤ 16) (ns : List Notice) :
    (s.logAll ns).mgmt.notices = (s.mgmt.notices ++ ns).take 16 := by
  induction ns generalizing s with
  | nil => simpa [State.logAll] using (List.take_of_length_le h).symm
  | cons n ns ih =>
    rw [State.logAll_cons]
    obtain hroom | hfull := h.lt_or_eq
    · rw [State.logNotice_of_room n hroom, ih (by simpa using hroom)]
      simp
    · rw [State.logNotice_of_full n hfull.ge, ih (by simpa using h)]
      simp [hfull]

theorem State.lost_logAll (s : State) (ns : List Notice) :
    (s.logAll ns).mgmt.lost = (s.mgmt.lost || Decidable.decide (16 - s.mgmt.notices.length < ns.length)) := by
  induction ns generalizing s with
  | nil => simp [State.logAll]
  | cons n ns ih =>
    rw [State.logAll_cons, ih]
    obtain hroom | hfull := Nat.lt_or_ge s.mgmt.notices.length 16
    · have hcount : 16 - (s.mgmt.notices.length + 1) < ns.length ↔ 16 - s.mgmt.notices.length < ns.length + 1 := by
        omega
      simp only [State.logNotice_of_room n hroom, List.length_append, List.length_cons, List.length_nil,
        Nat.zero_add, hcount]
    · simp [State.logNotice_of_full n hfull, Nat.sub_eq_zero_of_le hfull]

theorem State.counter_logAll (s : State) (ns : List Notice) (c : Counter) :
    (s.logAll ns).counter c = if c = .noticesLost then
      s.counter c + BitVec.ofNat 32 (ns.length - (16 - s.mgmt.notices.length)) else s.counter c := by
  induction ns generalizing s with
  | nil => simp [State.logAll]
  | cons n ns ih =>
    rw [State.logAll_cons, ih]
    obtain hroom | hfull := Nat.lt_or_ge s.mgmt.notices.length 16
    · have hcount : ns.length - (16 - (s.mgmt.notices.length + 1)) = ns.length + 1 - (16 - s.mgmt.notices.length) := by
        omega
      have hcounter : (s.logNotice n).counter c = s.counter c := by rw [State.logNotice_of_room n hroom]; rfl
      rw [hcounter, State.logNotice_of_room n hroom]
      simp only [List.length_append, List.length_cons, List.length_nil,
        Nat.zero_add, hcount]
    · have hcounter : (s.logNotice n).counter c = if c = .noticesLost then s.counter c + 1 else s.counter c := by
        rw [State.logNotice_of_full n hfull, State.counter_bump]
        split <;> [(next hc => rw [hc]; rfl); rfl]
      rw [hcounter, State.logNotice_of_full n hfull]
      simp only [State.bump_mgmt_notices, Nat.sub_eq_zero_of_le hfull, List.length_cons, Nat.sub_zero, BitVec.ofNat_add]
      split <;> [(rw [add_assoc, add_comm 1]; rfl); rfl]

theorem State.notices_logNotice_ne_nil (s : State) (n : Notice) : (s.logNotice n).mgmt.notices ≠ [] := by
  obtain hroom | hfull := Nat.lt_or_ge s.mgmt.notices.length 16
  · simp [State.logNotice_of_room n hroom]
  · rw [State.logNotice_of_full n hfull]
    exact List.ne_nil_of_length_pos (by simp; omega)

theorem State.irqLine_logAll_of_ne_nil (h : s.mgmt.notices ≠ []) (ns : List Notice) :
    (s.logAll ns).mgmt.irqLine = s.mgmt.irqLine := by
  induction ns generalizing s with
  | nil => rfl
  | cons n ns ih =>
    rw [State.logAll_cons, ih (s.notices_logNotice_ne_nil n)]
    obtain hroom | hfull := Nat.lt_or_ge s.mgmt.notices.length 16
    · simp [State.logNotice_of_room n hroom, h]
    · simp [State.logNotice_of_full n hfull]

/-- The IRQ line follows the first notice of an empty log; no later one moves it. -/
theorem State.irqLine_logAll (s : State) (ns : List Notice) :
    (s.logAll ns).mgmt.irqLine = if s.mgmt.notices = [] ∧ ns ≠ [] then
        ((s.logAll ns).mgmt.notices.head?.any fun n => kindEnabled s.mgmt.regs.irqEnable n.kind)
          || (s.mgmt.quietStatus && s.mgmt.regs.irqEnable.getLsbD 31)
      else s.mgmt.irqLine := by
  by_cases hempty : s.mgmt.notices = []
  · cases ns with
    | nil => simp [State.logAll]
    | cons n ns =>
      rw [State.notices_logAll (by simp [hempty]), State.logAll_cons,
        State.irqLine_logAll_of_ne_nil (s.notices_logNotice_ne_nil n), State.logNotice_of_room n (by simp [hempty])]
      simp [hempty]
  · simp [State.irqLine_logAll_of_ne_nil hempty, hempty]

/-! ## The judgement and the move of one source (R138, R139, R140) -/

theorem judgeWindow_eq_hot_iff {conf : MeterConf} {total window : Nat} :
    judgeWindow conf total window = .hot ↔ conf.ceiling * window < total := by
  unfold judgeWindow; split <;> [simp [*]; (split <;> simp [*])]

theorem judgeWindow_eq_cool_iff {conf : MeterConf} {total window : Nat} :
    judgeWindow conf total window = .cool ↔ ¬conf.ceiling * window < total ∧ total < conf.floor * window := by
  unfold judgeWindow; split <;> [simp [*]; (split <;> simp [*])]

section Moves

variable {streak : Nat} {conf : MeterConf} {j : Judged}

theorem meterMove_calm_of_ne_hot (h : j ≠ .hot) : meterMove .calm streak conf j = (.calm, 0, none) := by
  cases j <;> [contradiction; rfl; rfl]

theorem meterMove_warm_of_ne_hot (h : j ≠ .hot) : meterMove .warm streak conf j = (.calm, 0, none) := by
  cases j <;> [contradiction; rfl; rfl]

theorem meterMove_throttled_of_ne_cool (h : j ≠ .cool) :
    meterMove .throttled streak conf j = (.throttled, 0, none) := by
  cases j <;> [rfl; contradiction; rfl]

theorem meterMove_cooling_of_ne_cool (h : j ≠ .cool) : meterMove .cooling streak conf j = (.throttled, 0, none) := by
  cases j <;> [rfl; contradiction; rfl]

theorem meterMove_eq_off_iff {x : MeterState} : (meterMove x streak conf j).1 = .off ↔ x = .off := by
  unfold meterMove
  split <;> try split
  all_goals simp

/-- The notice that a change from one state to another raises (R140). -/
def throttleChange : MeterState → MeterState → Option NoticeKind
  | .calm, .throttled | .warm, .throttled => some .throttleOn
  | .throttled, .calm | .cooling, .calm => some .throttleOff
  | _, _ => none

/-- The notice of a window close can be read from the states before and after it. -/
theorem meterMove_notice (x : MeterState) :
    (meterMove x streak conf j).2.2 = throttleChange x (meterMove x streak conf j).1 := by
  unfold meterMove
  split <;> try split
  all_goals rfl

end Moves

/-- What a window close makes of a meter's state and streak, with the notice it raises. -/
def Meter.move (m : Meter) (window : Nat) : MeterState × Nat × Option NoticeKind :=
  meterMove m.state m.streak m.conf (judgeWindow m.conf m.accumulator window)

/-- The meter after its judgement at a window close, before the next window starts. -/
def Meter.judged (m : Meter) (window : Nat) : Meter :=
  { m with state := (m.move window).1, streak := (m.move window).2.1 }

/-- The notice that a source's judgement raises. -/
def State.throttleNotice (s : State) (src : Source) : Option Notice :=
  ((s.meterOf src).move s.mgmt.regs.meterWindow).2.2.map (⟨·, s.mgmt.time, some src, none, none, none, none⟩)

theorem State.judgeSource_eq (s : State) (src : Source) : s.judgeSource src = { s with
    meter.meters := tset s.meter.meters src ((s.meterOf src).judged s.mgmt.regs.meterWindow)
    mgmt := (s.logAll (s.throttleNotice src).toList).mgmt } := by
  have hjudge : s.judgeSource src = (s.setMeter src ((s.meterOf src).judged s.mgmt.regs.meterWindow)).logAll
      (s.throttleNotice src).toList := by
    simp only [State.judgeSource, State.throttleNotice, Meter.judged, Meter.move]
    rcases meterMove _ _ _ _ with ⟨x, streak, _ | k⟩ <;> rfl
  rw [hjudge, State.logAll_eq,
    State.mgmt_logAll_congr _ (State.setMeter_mgmt s src ((s.meterOf src).judged s.mgmt.regs.meterWindow))]
  rfl

theorem State.meterOf_judgeSource (s : State) (src other : Source) : (s.judgeSource src).meterOf other =
    if other = src then (s.meterOf src).judged s.mgmt.regs.meterWindow else s.meterOf other := by
  rw [State.judgeSource_eq]; exact tget_tset ..

theorem State.window_time_judgeSource (s : State) (src : Source) :
    (s.judgeSource src).mgmt.regs = s.mgmt.regs ∧ (s.judgeSource src).mgmt.time = s.mgmt.time := by
  rw [State.judgeSource_eq, State.mgmt_logAll]; exact ⟨rfl, rfl⟩

theorem State.throttleNotice_judgeSource {src other : Source} (h : other ≠ src) :
    (s.judgeSource src).throttleNotice other = s.throttleNotice other := by
  obtain ⟨hregs, htime⟩ := s.window_time_judgeSource src
  simp only [State.throttleNotice, State.meterOf_judgeSource, if_neg h, hregs, htime]

/-! ## The window close (R138) -/

/-- Sources judged one after another do not see each other's moves; only their notices meet, in the log. -/
theorem State.foldl_judgeSource {l : List Source} (hl : l.Nodup) (s : State) : l.foldl State.judgeSource s = { s with
    meter.meters := Vector.ofFn fun src =>
      if src ∈ l then (s.meterOf src).judged s.mgmt.regs.meterWindow else s.meterOf src
    mgmt := (s.logAll (l.filterMap s.throttleNotice)).mgmt } := by
  induction l generalizing s with
  | nil =>
    have hmeters : (Vector.ofFn fun src => s.meterOf src) = s.meter.meters := table_ext fun i => tget_ofFn _ i
    simp [hmeters, State.logAll]
  | cons x l ih =>
    obtain ⟨hx, hl⟩ := List.nodup_cons.mp hl
    have hmeters (src : Source) :
        (if src ∈ l then ((s.judgeSource x).meterOf src).judged s.mgmt.regs.meterWindow
          else (s.judgeSource x).meterOf src)
          = if src ∈ x :: l then (s.meterOf src).judged s.mgmt.regs.meterWindow else s.meterOf src := by
      by_cases hsrc : src = x
      · subst hsrc; simp [State.meterOf_judgeSource, hx]
      · simp [State.meterOf_judgeSource, hsrc]
    have hraised : l.filterMap (s.judgeSource x).throttleNotice = l.filterMap s.throttleNotice :=
      List.filterMap_congr fun src hsrc => State.throttleNotice_judgeSource (ne_of_mem_of_not_mem hsrc hx)
    have hmgmt : ((s.judgeSource x).logAll (l.filterMap s.throttleNotice)).mgmt
        = (s.logAll ((x :: l).filterMap s.throttleNotice)).mgmt := by
      have hsplit : (x :: l).filterMap s.throttleNotice
          = (s.throttleNotice x).toList ++ l.filterMap s.throttleNotice := by
        cases h : s.throttleNotice x <;> simp [h]
      rw [hsplit, State.logAll_append]
      exact State.mgmt_logAll_congr _ (by rw [State.judgeSource_eq])
    rw [List.foldl_cons, ih hl, (s.window_time_judgeSource x).1, hraised, hmgmt]
    simp only [hmeters]
    rw [State.judgeSource_eq]

theorem State.closeWindow_eq (s : State) : s.closeWindow = { s with
    meter.meters := Vector.ofFn fun src => ((s.meterOf src).judged s.mgmt.regs.meterWindow).startWindow
    meter.sampleCount := 0
    mgmt := (s.logAll (sources.filterMap s.throttleNotice)).mgmt } := by
  rw [State.closeWindow, State.foldl_judgeSource sources_nodup, State.startWindow]
  simp [tmap, mem_sources]

theorem State.meterOf_closeWindow (s : State) (src : Source) :
    s.closeWindow.meterOf src = ((s.meterOf src).judged s.mgmt.regs.meterWindow).startWindow := by
  simp only [State.closeWindow_eq, State.meterOf, tget_ofFn]

theorem State.mgmt_closeWindow (s : State) :
    s.closeWindow.mgmt = (s.logAll (sources.filterMap s.throttleNotice)).mgmt := by
  rw [State.closeWindow_eq]

/-- A window close touches the meters, the sample count and the management block. -/
theorem State.closeWindow_frame (s : State) :
    s.closeWindow = { s with meter := s.closeWindow.meter, mgmt := s.closeWindow.mgmt }
      ∧ s.closeWindow.meter.sampleCount = 0 ∧ s.closeWindow.meter.sampleTimer = s.meter.sampleTimer := by
  simp only [State.closeWindow_eq, and_self]

/-- The state with the sample's addition made, before the window closes (R137). -/
def State.sampled (s : State) : State :=
  { s with meter := ⟨Vector.ofFn fun src => (s.meterOf src).addSample (s.holdingOf src),
    s.mgmt.regs.meterSample * 10, s.meter.sampleCount + 1⟩ }

@[simp] theorem State.mgmt_sampled (s : State) : s.sampled.mgmt = s.mgmt := by simp only [State.sampled]

/-- Outside the meters a sample changes nothing. -/
theorem State.sampled_with (s : State) (meter : SourceMeter) (mgmt : Management) :
    { s.sampled with meter := meter, mgmt := mgmt } = { s with meter := meter, mgmt := mgmt } := by
  simp only [State.sampled]

@[simp] theorem State.meterOf_sampled (s : State) (src : Source) :
    s.sampled.meterOf src = (s.meterOf src).addSample (s.holdingOf src) := tget_ofFn ..

theorem State.takeSample_of_full (h : s.mgmt.regs.meterWindow ≤ s.meter.sampleCount + 1) :
    s.takeSample = s.sampled.closeWindow := if_pos h

theorem exec_sample_of_full (hdue : s.meter.sampleTimer = 0)
    (hfull : s.mgmt.regs.meterWindow ≤ s.meter.sampleCount + 1) :
    exec .sample s = .next s.sampled.closeWindow := by
  rw [← State.takeSample_of_full hfull]
  exact execSample_of_due hdue

/-- A meter after the window close with its source's last holding count added. -/
def Meter.windowClose (m : Meter) (holding window : Nat) : Meter :=
  ((m.addSample holding).judged window).startWindow

theorem State.meterOf_closeWindow_sampled (s : State) (src : Source) : s.sampled.closeWindow.meterOf src
    = (s.meterOf src).windowClose (s.holdingOf src) s.mgmt.regs.meterWindow := by
  rw [State.meterOf_closeWindow, State.meterOf_sampled, State.mgmt_sampled, Meter.windowClose]

theorem State.mgmt_closeWindow_sampled (s : State) : s.sampled.closeWindow.mgmt
    = (s.logAll (sources.filterMap s.sampled.throttleNotice)).mgmt := by
  rw [State.mgmt_closeWindow]
  exact State.mgmt_logAll_congr _ s.mgmt_sampled

section WindowClose

variable {m : Meter} {holding window : Nat}

theorem Meter.addSample_fields (m : Meter) (holding : Nat) :
    (m.addSample holding).conf = m.conf ∧ (m.addSample holding).waiting = m.waiting
      ∧ (m.addSample holding).state = m.state ∧ (m.addSample holding).streak = m.streak := by
  unfold Meter.addSample; split <;> exact ⟨rfl, rfl, rfl, rfl⟩

theorem Meter.conf_windowClose (m : Meter) (holding window : Nat) :
    (m.windowClose holding window).conf = m.waiting.getD m.conf := by
  obtain ⟨hconf, hwaiting, -, -⟩ := m.addSample_fields holding
  rw [Meter.windowClose, Meter.conf_startWindow, ← hconf, ← hwaiting]
  rfl

theorem Meter.move_addSample_of_off (h : m.state = .off) :
    (m.addSample holding).move window = (.off, m.streak, none) := by
  rw [Meter.addSample, if_pos h, Meter.move, h]
  rfl

theorem Meter.move_addSample_of_metered (h : m.state ≠ .off) : (m.addSample holding).move window
    = meterMove m.state m.streak m.conf (judgeWindow m.conf (m.accumulator + holding) window) := by
  rw [Meter.addSample, if_neg h]
  rfl

/-- An OFF source is not judged; the window start makes it CALM if a configuration was pending. -/
theorem Meter.course_windowClose_of_off (h : m.state = .off) :
    (m.windowClose holding window).state = (if m.waiting = none then .off else .calm)
      ∧ (m.windowClose holding window).streak = if m.waiting = none then m.streak else 0 := by
  obtain ⟨hstate, hstreak⟩ := ((m.addSample holding).judged window).course_startWindow
  rw [Meter.windowClose, hstate, hstreak]
  simp only [Meter.judged, Meter.move_addSample_of_off h, (m.addSample_fields holding).2.1]
  cases m.waiting <;> simp

/-- The window start leaves a metered source where its move has brought it. -/
theorem Meter.course_windowClose_of_metered {j : Judged} (h : m.state ≠ .off)
    (hj : judgeWindow m.conf (m.accumulator + holding) window = j) :
    (m.windowClose holding window).state = (meterMove m.state m.streak m.conf j).1
      ∧ (m.windowClose holding window).streak = (meterMove m.state m.streak m.conf j).2.1 := by
  obtain ⟨hstate, hstreak⟩ := ((m.addSample holding).judged window).course_startWindow
  rw [Meter.windowClose, hstate, hstreak]
  simp [Meter.judged, Meter.move_addSample_of_metered h, hj, meterMove_eq_off_iff, h]

/-- One row of R139's table: where the judgement of a metered source's state leads. -/
theorem Meter.windowClose_of_move {x y : MeterState} {j : Judged} {streak : Nat} {kind : Option NoticeKind}
    (hx : m.state = x) (hj : judgeWindow m.conf (m.accumulator + holding) window = j)
    (hmove : meterMove x m.streak m.conf j = (y, streak, kind)) (hoff : x ≠ .off := by decide) :
    (m.windowClose holding window).state = y ∧ (m.windowClose holding window).streak = streak := by
  have hcourse := Meter.course_windowClose_of_metered (hx ▸ hoff) hj
  rwa [hx, hmove] at hcourse

/-- The notice that a source raises can be read from its states before and after the window close. -/
theorem Meter.throttleChange_windowClose (m : Meter) (holding window : Nat) :
    ((m.addSample holding).move window).2.2 = throttleChange m.state (m.windowClose holding window).state := by
  by_cases h : m.state = .off
  · rw [Meter.move_addSample_of_off h, h]; rfl
  · have hstate := (Meter.course_windowClose_of_metered (holding := holding) (window := window) h rfl).1
    rw [Meter.move_addSample_of_metered h, meterMove_notice, hstate]

end WindowClose

theorem State.throttleNotice_sampled (s : State) (src : Source) : s.sampled.throttleNotice src =
    (throttleChange (s.meterOf src).state (s.sampled.closeWindow.meterOf src).state).map
      (⟨·, s.mgmt.time, some src, none, none, none, none⟩) := by
  rw [State.meterOf_closeWindow_sampled, ← Meter.throttleChange_windowClose, ← State.meterOf_sampled,
    State.throttleNotice, State.mgmt_sampled]

/-- Settles O36: the log follows the list of notices that the judgements raise, in source order, and each meter its own
row of R139's table. -/
theorem windowCloseJudgesSources : Obligations.WindowCloseJudgesSources := by
  intro s hdue hfull
  have hmgmt := s.mgmt_closeWindow_sampled
  obtain ⟨hframe, hcount, htimer⟩ := s.sampled.closeWindow_frame
  refine ⟨_, exec_sample_of_full hdue hfull, hframe.trans (s.sampled_with ..), hcount, htimer,
    by rw [hmgmt]; exact s.mgmt_logAll _, ⟨sources.filterMap s.sampled.throttleNotice, ?raised, ?notices, ?lost,
      ?counters, ?irq⟩, fun src => ?table⟩
  case raised =>
    refine List.filterMap_congr fun src _ => ?_
    rw [s.throttleNotice_sampled src]
    cases (s.meterOf src).state <;> cases (s.sampled.closeWindow.meterOf src).state <;> rfl
  case notices => rw [hmgmt]; exact fun h => State.notices_logAll h _
  case lost => rw [hmgmt]; exact s.lost_logAll _
  case counters => exact fun c => (State.counter_congr hmgmt c).trans (s.counter_logAll _ c)
  case irq => rw [hmgmt]; exact s.irqLine_logAll _
  case table =>
    simp only [State.meterOf_closeWindow_sampled]
    generalize s.meterOf src = m, s.holdingOf src = holding, s.mgmt.regs.meterWindow = window
    refine ⟨Meter.accumulator_startWindow _, Meter.waiting_startWindow _, m.conf_windowClose ..,
      Meter.course_windowClose_of_off, ?_⟩
    exact ⟨fun hx h henter => Meter.windowClose_of_move hx (judgeWindow_eq_hot_iff.mpr h) (if_pos henter),
      fun hx h henter => Meter.windowClose_of_move hx (judgeWindow_eq_hot_iff.mpr h) (if_neg henter),
      fun hx h => Meter.windowClose_of_move hx rfl (meterMove_calm_of_ne_hot (judgeWindow_eq_hot_iff.not.mpr h)),
      fun hx h henter => Meter.windowClose_of_move hx (judgeWindow_eq_hot_iff.mpr h) (if_pos henter),
      fun hx h henter => Meter.windowClose_of_move hx (judgeWindow_eq_hot_iff.mpr h) (if_neg (Nat.not_le.mpr henter)),
      fun hx h => Meter.windowClose_of_move hx rfl (meterMove_warm_of_ne_hot (judgeWindow_eq_hot_iff.not.mpr h)),
      fun hx h hexit => Meter.windowClose_of_move hx (judgeWindow_eq_cool_iff.mpr h) (if_pos hexit),
      fun hx h hexit => Meter.windowClose_of_move hx (judgeWindow_eq_cool_iff.mpr h) (if_neg hexit),
      fun hx h => Meter.windowClose_of_move hx rfl (meterMove_throttled_of_ne_cool (judgeWindow_eq_cool_iff.not.mpr h)),
      fun hx h hexit => Meter.windowClose_of_move hx (judgeWindow_eq_cool_iff.mpr h) (if_pos hexit),
      fun hx h hexit => Meter.windowClose_of_move hx (judgeWindow_eq_cool_iff.mpr h) (if_neg (Nat.not_le.mpr hexit)),
      fun hx h => Meter.windowClose_of_move hx rfl (meterMove_cooling_of_ne_cool (judgeWindow_eq_cool_iff.not.mpr h))⟩

end Sys2Proof.Machine
end

section
/-! The host-side port: what a request does while the port is UP, and what a full lane does with it. -/

-- as in the tests: one thread for the proofs, since the check's memory limit leaves no room for one thread each
set_option Elab.async false

namespace Sys2Proof.Machine

variable {s : State}

/-! ## Requests received while UP (R149) -/

theorem exec_read_of_up (hup : s.hport.up = true) (src : Source) (tag : Tag) (line : Line) :
    exec (.read src tag line) s = .next (s.receiveRead src (some tag) line (.read s.nextStamp src tag line)) := by
  simp [exec, execRead, hup]

theorem exec_hint_of_up (hup : s.hport.up = true) (src : Source) (line : Line) :
    exec (.hint src line) s = .next (s.receiveRead src none line (.hint s.nextStamp src line)) := by
  simp [exec, execHint, hup]

theorem exec_write_of_up (hup : s.hport.up = true) (src : Source) (tag : Tag) (line : Line) (data : LineData) :
    exec (.write src tag line data) s
      = .next (s.receiveWrite ⟨s.nextStamp, src, tag, line, false, fullPayload data⟩) := by
  simp [exec, execWrite, hup]

theorem exec_maskedWrite_of_up (hup : s.hport.up = true) (src : Source) (tag : Tag) (line : Line) (p : Payload) :
    exec (.maskedWrite src tag line p) s = .next (s.receiveWrite ⟨s.nextStamp, src, tag, line, true, p⟩) := by
  simp [exec, execMaskedWrite, hup]

theorem exec_flush_of_up (hup : s.hport.up = true) (src : Source) (tag : Tag) :
    exec (.flush src tag) s = .next (s.receiveFlush ⟨s.nextStamp, src, tag⟩) := by
  simp [exec, execFlush, hup]

/-! ## A full lane (R152) -/

theorem State.overflow_eq (s : State) (src : Source) (tag : Option Tag) (line : Option Line) :
    s.overflow src tag line
      = s.logNotice ⟨.ingressOverflow, s.mgmt.time, some src, tag, line, none, none⟩ := rfl

theorem State.receiveRead_of_full (hfull : 8 ≤ s.hport.readLane.length) (src : Source) (tag : Option Tag) (line : Line)
    (req : ReadLaneReq) : s.receiveRead src tag line req = s.overflow src tag (some line) :=
  if_pos hfull

theorem State.receiveWrite_of_full (hfull : 8 ≤ s.hport.writeLane.length) (req : WriteReq) :
    s.receiveWrite req = s.overflow req.source (some req.tag) (some req.line) :=
  if_pos hfull

theorem State.receiveFlush_of_full (hfull : 4 ≤ s.hport.flushLane.length) (req : FlushReq) :
    s.receiveFlush req = s.overflow req.source (some req.tag) none :=
  if_pos hfull

/-- Settles O10: one case for each lane; whatever the request, a full lane answers with the overflow notice alone. -/
theorem fullLaneDiscardsRequest : Obligations.FullLaneDiscardsRequest := by
  intro s src tag line hup
  refine ⟨fun hread => ⟨?read, ?hint⟩, fun hwrite data p => ⟨?write, ?maskedWrite⟩, fun hflush => ?flush⟩
  case read => rw [exec_read_of_up hup, State.receiveRead_of_full hread, State.overflow_eq]
  case hint => rw [exec_hint_of_up hup, State.receiveRead_of_full hread, State.overflow_eq]
  case write => rw [exec_write_of_up hup, State.receiveWrite_of_full hwrite, State.overflow_eq]
  case maskedWrite => rw [exec_maskedWrite_of_up hup, State.receiveWrite_of_full hwrite, State.overflow_eq]
  case flush => rw [exec_flush_of_up hup, State.receiveFlush_of_full hflush, State.overflow_eq]

end Sys2Proof.Machine
end
